-- ==== Sys2Proof/Word.lean ====
section
/-! DEFINITION. The two widths of the machine (spec/10_state.md rules R20 and R21): an 8-bit cell and a 16-bit pair or
address. BitVec arithmetic wraps, which is the spec's "masked to their bit width on write". -/

namespace Sys2Proof

/-- An 8-bit register cell or memory byte. -/
abbrev Byte := BitVec 8

/-- A 16-bit register pair or bus address. -/
abbrev Word := BitVec 16

end Sys2Proof
end

