-- ==== Sys2Proof/Machine/Bits.lean ====
section
/-! DEFINITION. Byte order, halves of a word and sign extension (spec/00_scope.md rules R6 and R8, spec/20_memory.md
rule R80). Every 16-bit value of the model is joined and split here, so that little-endian order is decided once. -/

namespace Sys2Proof

/-- `v[15:8]`, the high cell of a pair (rule R20). -/
def hiByte (v : Word) : Byte := v.extractLsb' 8 8

/-- `v[7:0]`, the low cell of a pair (rule R20). -/
def loByte (v : Word) : Byte := v.extractLsb' 0 8

/-- `hi ++ lo`, the pair of two cells (rules R6 and R20). -/
def joinBytes (hi lo : Byte) : Word := hi ++ lo

/-- `sext_16(d)`: the displacement byte as a signed 16-bit value (rule R6). -/
def signExtend16 (d : Byte) : Word := d.signExtend 16

/-- `0xFF00 + n`, the page address of the LDH forms (rules R152 to R155). -/
def pageAddr (n : Byte) : Word := joinBytes 0xFF#8 n

end Sys2Proof
end

