-- ==== Sys2Proof/Config.lean ====
section
/-! DEFINITION. What the machine is built with and the spec leaves open (spec/00_scope.md rule R5). The contents of the
boot ROM are the one open value the state needs: decision D18 leaves them to a parameter. They have no body here, so
nothing can be proved from a value of theirs. The cartridge image (D19) is no constant: it is the argument of `loadROM`.
The machine-cycle table (D3) and the colour table (D20) have decided values in the spec and stand with the operations
that use them. -/

namespace Sys2Proof

/-- `BOOT_ROM[i]` for `i` in 0 to 255 (rules R5 and R453, decision D18). Free: log entry 1. -/
opaque Config.bootRom : Nat → Byte

end Sys2Proof
end

