-- ==== Sys2Proof/Machine/State.lean ====
section
/-! DEFINITION. The whole state of the machine (spec/10_state.md), the reasons a step can stop, and the state after
reset (rule R46). Everything is plain data. -/

namespace Sys2Proof.Machine

/-! ## Memory -/

/-- The bytes of the address space, as pairs of an address and a byte, in the canonical form of `Memory.wf`
(Sys2Proof/Machine/Memory.lean): addresses strictly rise and no pair holds 0. An address with no pair reads 0, the reset
value of every array (rule R46). The key of a cell is its bus address; each array of rule R37 is the keys of its range in
rule R61: ROM0 0x0000, ROMN 0x4000, VRAM 0x8000, ERAM 0xA000, WRAM 0xC000, OAM 0xFE00, IO 0xFF00, HRAM 0xFF80, IE
0xFFFF. The mirror 0xE000 to 0xFDFF has no cells of its own. -/
abbrev Memory := List Host.Cell

/-! ## Picture-processing unit -/

/-- A shade or a palette index, 0 to 3 (rule R11). -/
abbrev Shade := BitVec 2

/-- One decoded row of a tile: eight shades, leftmost first (rule R320). -/
abbrev TileRow := Vector Shade 8

/-- The decoded tile cache `TILE[t][y][x]` (rule R42). -/
abbrev TileCache := Vector (Vector TileRow 8) 384

/-- One line of the picture (rule R43). -/
abbrev PixelLine := Vector Shade 160

/-- A picture of 144 lines (rule R43). -/
abbrev Frame := Vector PixelLine 144

/-- The four modes of the scanline state machine (rule R310). -/
inductive PpuMode where
  | oamSearch
  | pixelTransfer
  | hBlank
  | vBlank
  deriving DecidableEq, Repr

/-- The state the PPU owns besides VRAM and OAM, which are cells of `State.mem` (rules R40 to R43). -/
structure Ppu where
  /-- LCD control, 0xFF40 (rule R301). -/
  lcdc : Byte
  /-- Scroll Y, 0xFF42 (rule R302). -/
  scy : Byte
  /-- Scroll X, 0xFF43 (rule R303). -/
  scx : Byte
  /-- The current scanline, 0xFF44 (rule R304). -/
  ly : Byte
  /-- The background palette `PAL[0..3]`, 0xFF47 (rule R306). -/
  pal : Vector Shade 4
  /-- `MODE` (rule R41). -/
  mode : PpuMode
  /-- `CNT`, T-cycles spent in the present mode (rule R41). -/
  cnt : Nat
  /-- `TILE` (rule R42). -/
  tile : TileCache
  /-- `FB`, the frame buffer (rule R43). -/
  fb : Frame
  /-- `OUT`, the output latch (rule R43). -/
  out : Frame
  /-- `FRAMES`, the presents since reset (rule R43). -/
  frames : Nat
  deriving DecidableEq, Repr

/-! ## The machine -/

/-- The state of the machine. -/
structure State where
  /-- Accumulator, the high cell of AF (rule R20). -/
  a : Byte
  /-- Flags, the low cell of AF: Z N Hf Cf in bits 7 to 4, bits 3 to 0 plain storage (rules R23 and R24). -/
  f : Byte
  /-- High cell of BC. -/
  b : Byte
  /-- Low cell of BC. -/
  c : Byte
  /-- High cell of DE. -/
  d : Byte
  /-- Low cell of DE. -/
  e : Byte
  /-- High cell of HL. -/
  h : Byte
  /-- Low cell of HL. -/
  l : Byte
  /-- Stack pointer (rule R27). -/
  sp : Word
  /-- Program counter (rule R26). -/
  pc : Word
  /-- Interrupt-master-enable flag (rule R30). -/
  ime : Bool
  /-- The halt latch (rule R31). -/
  halted : Bool
  /-- The stop latch (rule R31). -/
  stopped : Bool
  /-- `m`, machine cycles of the last instruction (rule R34). -/
  m : Nat
  /-- `CLK`, machine cycles since reset (rule R35). -/
  clk : Nat
  /-- `BOOT`, the boot-ROM shadow flag (rule R36). -/
  boot : Bool
  /-- `BOOT_ROM`, constant (rule R37). -/
  bootRom : Vector Byte 256
  /-- The host's one `loadROM` has been done (rule R455). The model's own bit: log entry 2. -/
  romLoaded : Bool
  /-- The storage arrays of rule R37 other than `BOOT_ROM`. -/
  mem : Memory
  /-- The picture-processing unit. -/
  ppu : Ppu
  deriving DecidableEq, Repr

/-! ## Why a step stops -/

/-- The hardware has no fault: "The set of exception causes is empty" (rule R400). No constructor, so safe by form. -/
inductive Fault where
  deriving DecidableEq, Repr

/-- What the model refuses. -/
inductive Refusal where
  /-- Raised by `exec` for an instruction with no meaning yet. Safe: nothing is claimed of it. -/
  | notModelled (mnemonic : String)
  /-- Raised by the host operation `loadROM` when it is called a second time or after the first step, which the document
  does not describe (rule R455, spec/93_implementation_defined.md U9). No instruction and no step raises it. Safe. -/
  | romLoadedTwiceOrLate
  deriving DecidableEq, Repr

/-- What a meaning and a step answer. -/
abbrev Result := Host.Outcome State Fault Refusal

/-! ## Reset -/

/-- `count` bytes of `image` from index `i` on. -/
def imageFrom (image : Nat → Byte) (i : Nat) : Nat → List Byte
  | 0 => []
  | count + 1 => image i :: imageFrom image (i + 1) count

/-- `imageFrom` answers as many bytes as it is asked for. -/
theorem length_imageFrom (image : Nat → Byte) (i count : Nat) : (imageFrom image i count).length = count := by
  induction count generalizing i with
  | zero => rfl
  | succ n ih => simp [imageFrom, ih]

/-- The 256 bytes of the boot ROM the machine is built with (rule R5). -/
def bootRomImage : Vector Byte 256 := ⟨⟨imageFrom Config.bootRom 0 256⟩, length_imageFrom _ _ _⟩

/-- A picture of palette index 0 (rule R46). -/
def blankFrame : Frame := Vector.replicate 144 (Vector.replicate 160 0)

/-- The tile cache of a VRAM of zeros (rule R46). -/
def blankTiles : TileCache := Vector.replicate 384 (Vector.replicate 8 (Vector.replicate 8 0))

/-- The PPU after reset (rule R46). -/
def Ppu.reset : Ppu where
  lcdc := 0
  scy := 0
  scx := 0
  ly := 0
  pal := Vector.replicate 4 0
  mode := .oamSearch
  cnt := 0
  tile := blankTiles
  fb := blankFrame
  out := blankFrame
  frames := 0

/-- The machine right after reset (rules R46 and R450). -/
def State.reset : State where
  a := 0
  f := 0
  b := 0
  c := 0
  d := 0
  e := 0
  h := 0
  l := 0
  sp := 0
  pc := 0
  ime := false
  halted := false
  stopped := false
  m := 0
  clk := 0
  boot := true
  bootRom := bootRomImage
  romLoaded := false
  mem := []
  ppu := .reset

end Sys2Proof.Machine
end

