-- ==== Sys2Proof/Machine/Memory.lean ====
section
/-! DEFINITION. Reading and writing one byte of `Memory`, and its canonical form. Wider accesses are built from these in
Sys2Proof/Machine/Ops.lean (rules R64 and R65). -/

namespace Sys2Proof.Machine

/-- The byte at a key; a key with no pair reads 0 (rule R46). -/
def Memory.read : Memory → Nat → Byte
  | [], _ => 0
  | (k, v) :: rest, key => if k = key then v else Memory.read rest key

/-- Every pair at a key taken out. -/
def Memory.erase : Memory → Nat → Memory
  | [], _ => []
  | (k, v) :: rest, key => if k = key then Memory.erase rest key else (k, v) :: Memory.erase rest key

/-- A pair put before the first greater key. -/
def Memory.insert : Memory → Nat → Byte → Memory
  | [], key, byte => [(key, byte)]
  | (k, v) :: rest, key, byte =>
    if key < k then (key, byte) :: (k, v) :: rest else (k, v) :: Memory.insert rest key byte

/-- Store a byte. Storing 0, which is what an absent key reads as, leaves no pair. -/
def Memory.write (m : Memory) (key : Nat) (byte : Byte) : Memory :=
  if byte = 0 then m.erase key else (m.erase key).insert key byte

/-- The canonical form: keys strictly rise, no pair holds 0. Two memories in it that read alike are equal lists. -/
def Memory.wf : Memory → Bool
  | [] => true
  | [(_, v)] => v != 0
  | (k, v) :: (k', v') :: rest => decide (k < k') && v != 0 && Memory.wf ((k', v') :: rest)

/-- The pairs of the cartridge ROM for an image whose first byte has key `key`: at most `count` bytes, zeros left out
(rule R69: bytes past the 32 KB are not used, and a short image leaves zeros). -/
def romCells : List Byte → Nat → Nat → Memory
  | [], _, _ => []
  | _ :: _, _, 0 => []
  | v :: rest, key, count + 1 =>
    if v = 0 then romCells rest (key + 1) count else (key, v) :: romCells rest (key + 1) count

/-- The memory with its ROM cells, keys below 0x8000, replaced by an image (rule R69). -/
def Memory.withRom (m : Memory) (image : List Byte) : Memory :=
  romCells image 0 0x8000 ++ m.filter fun cell => decide (0x8000 ≤ cell.1)

end Sys2Proof.Machine
end

