-- ==== Sys2Proof/Machine/Ppu.lean ====
section
/-! DEFINITION. The picture-processing unit (spec/50_ppu.md): its registers on the bus, the tile-row decoder, the pixel
sequencer, the scanline state machine, and the events of the output port. -/

namespace Sys2Proof.Machine

/-! ## Registers -/

/-- The byte BGP reads as: `PAL[3] ++ PAL[2] ++ PAL[1] ++ PAL[0]` (rule R306). -/
def packPalette (pal : Vector Shade 4) : Byte := pal[3] ++ pal[2] ++ pal[1] ++ pal[0]

/-- The four entries a write of `v` to BGP sets: `PAL[i] <- v[2i+1 : 2i]` (rule R306). -/
def unpackPalette (v : Byte) : Vector Shade 4 :=
  #v[v.extractLsb' 0 2, v.extractLsb' 2 2, v.extractLsb' 4 2, v.extractLsb' 6 2]

/-- `readRegister(a)` for `a` in 0xFF40 to 0xFF47 (rule R307); the three addresses without a register read 0 (rule
R305). -/
def Ppu.readRegister (p : Ppu) (addr : Nat) : Byte :=
  if addr = 0xFF40 then p.lcdc
  else if addr = 0xFF42 then p.scy
  else if addr = 0xFF43 then p.scx
  else if addr = 0xFF44 then p.ly
  else if addr = 0xFF47 then packPalette p.pal
  else 0

/-- `writeRegister(a, v)` for `a` in 0xFF40 to 0xFF47 (rule R308); LY is read only (rule R304), and the three addresses
without a register drop the byte (rule R305). -/
def Ppu.writeRegister (p : Ppu) (addr : Nat) (v : Byte) : Ppu :=
  if addr = 0xFF40 then { p with lcdc := v }
  else if addr = 0xFF42 then { p with scy := v }
  else if addr = 0xFF43 then { p with scx := v }
  else if addr = 0xFF47 then { p with pal := unpackPalette v }
  else p

/-- LCDC bit 7 (rule R301). -/
def Ppu.lcdEnabled (p : Ppu) : Bool := p.lcdc.getLsbD 7

/-- LCDC bit 4: tile indices are unsigned (rule R301). -/
def Ppu.unsignedTiles (p : Ppu) : Bool := p.lcdc.getLsbD 4

/-- LCDC bit 3: the background map at VRAM offset 0x1C00 instead of 0x1800 (rules R301 and R325). -/
def Ppu.mapBase (p : Ppu) : Nat := if p.lcdc.getLsbD 3 then 0x1C00 else 0x1800

/-! ## Tile decoder -/

/-- `VRAM[off]`, read directly and not through the bus (rule R325). -/
def vramByte (mem : Memory) (off : Nat) : Byte := mem.read (0x8000 + off)

/-- The eight shades of a row: column `x` is `lo[7-x] + 2*hi[7-x]` (rule R320). -/
def decodeRow (lo hi : Byte) : TileRow :=
  Vector.ofFn fun x : Fin 8 => BitVec.ofBool (hi.getLsbD (7 - x)) ++ BitVec.ofBool (lo.getLsbD (7 - x))

/-- `decodeTileRow(rel)`: the row that holds VRAM byte `rel` decoded again (rule R320). The bus calls it for `rel` in
0x0000 to 0x17FF, where the tile index is below 384; past that there is no tile and nothing happens. -/
def decodeTileRow (mem : Memory) (rel : Nat) (tile : TileCache) : TileCache :=
  if inCache : rel / 16 < 384 then
    let base := rel / 2 * 2
    let row := decodeRow (vramByte mem base) (vramByte mem (base + 1))
    tile.set (rel / 16) ((tile[rel / 16]).set (rel / 2 % 8) row (Nat.mod_lt _ (by decide)))
  else tile

/-! ## Pixel sequencer -/

/-- `tileOf(idx)`: the cache tile a map byte selects (rule R326). -/
def tileOf (unsignedTiles : Bool) (idx : Byte) : Nat :=
  if unsignedTiles then idx.toNat
  else if idx.toNat < 128 then idx.toNat + 256 else idx.toNat

/-- `tileOf` stays inside the cache (rule R326: "always in 0 to 383"). -/
theorem tileOf_lt (u : Bool) (idx : Byte) : tileOf u idx < 384 := by
  have := idx.isLt
  unfold tileOf
  split
  · omega
  · split <;> omega

/-- The palette index of pixel `i` of the line LY (rule R325). -/
def Ppu.pixel (p : Ppu) (mem : Memory) (i : Nat) : Shade :=
  let yy := (p.ly.toNat + p.scy.toNat) % 256
  let xx := p.scx.toNat + i
  let idx := vramByte mem (p.mapBase + yy / 8 * 32 + xx / 8 % 32)
  let shade := ((p.tile[tileOf p.unsignedTiles idx]'(tileOf_lt _ _))[yy % 8]'(Nat.mod_lt _ (by decide)))[xx % 8]'(Nat.mod_lt _ (by decide))
  p.pal[shade.toNat]'shade.isLt

/-- The 160 pixels of the line LY (rule R325). -/
def Ppu.scanline (p : Ppu) (mem : Memory) : PixelLine := Vector.ofFn fun i : Fin 160 => p.pixel mem i

/-- `renderScanline()`: row LY of `FB` (rules R325 and R330). It runs with LY at most 143 only (rule R316); past the
buffer there is no row to write. -/
def Ppu.renderScanline (p : Ppu) (mem : Memory) : Ppu :=
  if visible : p.ly.toNat < 144 then { p with fb := p.fb.set p.ly.toNat (p.scanline mem) } else p

/-- `present()`: the output latch takes the frame buffer (rule R331). -/
def Ppu.present (p : Ppu) : Ppu := { p with out := p.fb, frames := p.frames + 1 }

/-! ## Scanline state machine -/

/-- The threshold of a mode in T-cycles (rule R310). -/
def PpuMode.threshold : PpuMode → Nat
  | .oamSearch => 80
  | .pixelTransfer => 172
  | .hBlank => 204
  | .vBlank => 456

/-- What happens when a mode's threshold is reached, `CNT` being 0 already (rules R310 to R315). -/
def Ppu.leaveMode (p : Ppu) (mem : Memory) : Ppu :=
  match p.mode with
  | .oamSearch => { p with mode := .pixelTransfer }
  | .pixelTransfer => { p.renderScanline mem with mode := .hBlank }
  | .hBlank =>
    if p.ly + 1 = 144 then { p with ly := p.ly + 1, mode := .vBlank }.present
    else { p with ly := p.ly + 1, mode := .oamSearch }
  | .vBlank =>
    if p.ly.toNat + 1 > 153 then { p with ly := 0, mode := .oamSearch } else { p with ly := p.ly + 1 }

/-- `advance(m)`: nothing while the LCD is off; else `4 * m` T-cycles are counted, and if that reaches the mode's
threshold the counter restarts at 0 and one transition is made (rule R311). -/
def Ppu.advance (p : Ppu) (mem : Memory) (m : Nat) : Ppu :=
  if p.lcdEnabled then
    if p.mode.threshold ≤ p.cnt + 4 * m then { p with cnt := 0 }.leaveMode mem
    else { p with cnt := p.cnt + 4 * m }
  else p

/-! ## Output port -/

/-- A colour on the output port. -/
structure Rgb where
  /-- Red. -/
  r : Byte
  /-- Green. -/
  g : Byte
  /-- Blue. -/
  b : Byte
  deriving DecidableEq, Repr

/-- `RGB_TABLE`: white, light grey, dark grey, black (rule R327, decision D20). -/
def rgbTable (index : Shade) : Rgb :=
  if index = 0 then ⟨255, 255, 255⟩
  else if index = 1 then ⟨192, 192, 192⟩
  else if index = 2 then ⟨96, 96, 96⟩
  else ⟨0, 0, 0⟩

/-- What the core tells the presentation sink (rule R332). -/
inductive SinkEvent where
  /-- The pixel-set operation. -/
  | pixelSet (x y : Nat) (rgb : Rgb)
  /-- The frame-present operation. -/
  | present
  deriving DecidableEq, Repr

/-- The pixel-set events of one rendered line, in ascending `x` (rules R325 and R332). -/
def lineEvents (y : Nat) (pixels : PixelLine) : List SinkEvent :=
  (List.finRange 160).map fun i : Fin 160 => .pixelSet i.val y (rgbTable pixels[i])

/-- The events of one `advance(m)`: 160 pixels where it leaves pixel-transfer, one present where it enters V-blank (rules
R325, R331 and R332). -/
def Ppu.advanceEvents (p : Ppu) (mem : Memory) (m : Nat) : List SinkEvent :=
  if p.lcdEnabled ∧ p.mode.threshold ≤ p.cnt + 4 * m then
    match p.mode with
    | .oamSearch => []
    | .pixelTransfer => if p.ly.toNat < 144 then lineEvents p.ly.toNat (p.scanline mem) else []
    | .hBlank => if p.ly + 1 = 144 then [.present] else []
    | .vBlank => []
  else []

end Sys2Proof.Machine
end

