-- ==== Sys2Proof/Machine/Ops.lean ====
section
/-! DEFINITION. The named operations over registers, memory and the stack that every meaning is built from: the pairs of
the register file, the bus, the stack, the jump, and the cost of an instruction. The hardware raises no exception and
dispatches no interrupt (rules R400, R404 and R405), so there is no operation that takes one: `RST` and `CALL` push and
jump through `pushWord`, and `RET` and `RETI` pop through `popPc`; "behaves as RET" is the whole of a return from
interrupt (rule R406). -/

namespace Sys2Proof.Machine

/-! ## Register pairs (rules R20 and R21) -/

/-- The pair AF. -/
def State.af (s : State) : Word := joinBytes s.a s.f

/-- The pair BC. -/
def State.bc (s : State) : Word := joinBytes s.b s.c

/-- The pair DE. -/
def State.de (s : State) : Word := joinBytes s.d s.e

/-- The pair HL. -/
def State.hl (s : State) : Word := joinBytes s.h s.l

/-- `AF <- v`, all eight bits of F included (rule R24). -/
def State.setAf (s : State) (v : Word) : State := { s with a := hiByte v, f := loByte v }

/-- `BC <- v`. -/
def State.setBc (s : State) (v : Word) : State := { s with b := hiByte v, c := loByte v }

/-- `DE <- v`. -/
def State.setDe (s : State) (v : Word) : State := { s with d := hiByte v, e := loByte v }

/-- `HL <- v`. -/
def State.setHl (s : State) (v : Word) : State := { s with h := hiByte v, l := loByte v }

/-- `SP <- v`. -/
def State.setSp (s : State) (v : Word) : State := { s with sp := v }

/-- `PC <- v`. -/
def State.setPc (s : State) (v : Word) : State := { s with pc := v }

/-- `A <- v`. -/
def State.setA (s : State) (v : Byte) : State := { s with a := v }

/-- `m <- k` (rule R34): the last act of every meaning. -/
def State.took (s : State) (k : Nat) : State := { s with m := k }

/-! ## The bus (rules R60 to R63) -/

/-- `readByte(a)` (rule R62). It changes no state, so it answers the byte alone. -/
def State.busRead (s : State) (addr : Word) : Byte :=
  let a := addr.toNat
  if shadowed : s.boot = true ∧ a ≤ 0x00FF then s.bootRom[a]'(Nat.lt_succ_of_le shadowed.2)
  else if a ≤ 0xDFFF then s.mem.read a
  else if a ≤ 0xFDFF then s.mem.read (a - 0x2000)
  else if a ≤ 0xFE9F then s.mem.read a
  else if a ≤ 0xFEFF then 0
  else if 0xFF40 ≤ a ∧ a ≤ 0xFF47 then s.ppu.readRegister a
  else s.mem.read a

/-- A store to a cell of plain storage. -/
def State.storeCell (s : State) (key : Nat) (v : Byte) : State := { s with mem := s.mem.write key v }

/-- A store to `VRAM[off]`: the byte first, then the tile row decoded again if it lies in the tile data (rule R72). -/
def State.storeVram (s : State) (off : Nat) (v : Byte) : State :=
  let mem := s.mem.write (0x8000 + off) v
  { s with
    mem := mem
    ppu := if off ≤ 0x17FF then { s.ppu with tile := decodeTileRow mem off s.ppu.tile } else s.ppu }

/-- `writeByte(a, v)` (rule R63). -/
def State.busWrite (s : State) (addr : Word) (v : Byte) : State :=
  let a := addr.toNat
  if a ≤ 0x7FFF then s
  else if a ≤ 0x9FFF then s.storeVram (a - 0x8000) v
  else if a ≤ 0xDFFF then s.storeCell a v
  else if a ≤ 0xFDFF then s.storeCell (a - 0x2000) v
  else if a ≤ 0xFE9F then s.storeCell a v
  else if a ≤ 0xFEFF then s
  else if 0xFF40 ≤ a ∧ a ≤ 0xFF47 then { s with ppu := s.ppu.writeRegister a v }
  else s.storeCell a v

/-- `readWord(a)`: low byte at `a`, high byte at `u16(a+1)` (rule R64). -/
def State.busReadWord (s : State) (addr : Word) : Word := joinBytes (s.busRead (addr + 1)) (s.busRead addr)

/-- `writeWord(a, v)`: the low byte at `a`, then the high byte at `u16(a+1)` (rule R65). -/
def State.busWriteWord (s : State) (addr : Word) (v : Word) : State :=
  (s.busWrite addr (loByte v)).busWrite (addr + 1) (hiByte v)

/-! ## The stack (rule R27) and control transfer -/

/-- `SP <- u16(SP - 2); MemWrite(SP, 2, v)` (rule R164). -/
def State.pushWord (s : State) (v : Word) : State := (s.setSp (s.sp - 2)).busWriteWord (s.sp - 2) v

/-- The word a pop takes, `MemRead(SP, 2)` (rule R165). -/
def State.stackTop (s : State) : Word := s.busReadWord s.sp

/-- `PC <- MemRead(SP, 2); SP <- u16(SP + 2)` (rule R248). -/
def State.popPc (s : State) : State := (s.setPc s.stackTop).setSp (s.sp + 2)

/-- Push the post-operand PC and go to `target` (rules R246 and R250). -/
def State.callTo (s : State) (target : Word) : State := (s.pushWord s.pc).setPc target

/-- `PC <- u16(PC + sext_16(d))` (rule R244). -/
def State.jumpBy (s : State) (d : Byte) : State := s.setPc (s.pc + signExtend16 d)

/-! ## Host operation -/

/-- `loadROM(bytes)` (rule R69): done once and before the first step; the document describes no other use, and the model
refuses it (rule R455, spec/93_implementation_defined.md U9). CLK is 0 exactly until the first step. -/
def loadROM (image : List Byte) (s : State) : Host.Outcome State Fault Refusal :=
  if s.romLoaded = true ∨ s.clk ≠ 0 then .refused .romLoadedTwiceOrLate
  else .next { s with mem := s.mem.withRom image, romLoaded := true }

end Sys2Proof.Machine
end

