-- ==== Sys2Proof/Machine/Flags.lean ====
section
/-! DEFINITION. The flags in F (rules R23 to R25) and every flag computation of the spec: the ALU helpers of
spec/42_alu8.md, the 16-bit adds of spec/43_alu16.md, DAA, and the rotates and shifts of spec/44_rotates_bits.md. Sums and
comparisons are made on unbounded numbers and narrowed at the end, as the spec's pseudocode is. -/

namespace Sys2Proof.Machine

/-! ## The flag bits -/

/-- ZERO, bit 7 of F. -/
def State.flagZ (s : State) : Bool := s.f.getLsbD 7

/-- SUBTRACT, bit 6 of F. -/
def State.flagN (s : State) : Bool := s.f.getLsbD 6

/-- HALF_CARRY, bit 5 of F. -/
def State.flagH (s : State) : Bool := s.f.getLsbD 5

/-- CARRY, bit 4 of F. -/
def State.flagC (s : State) : Bool := s.f.getLsbD 4

/-- The byte F with the four flags replaced and bits 3 to 0 of `old` kept (rule R24). -/
def packFlags (z n h c : Bool) (old : Byte) : Byte :=
  BitVec.ofBool z ++ BitVec.ofBool n ++ BitVec.ofBool h ++ BitVec.ofBool c ++ old.extractLsb' 0 4

/-- `Z <- z; N <- n; Hf <- h; Cf <- c`. An instruction that leaves a flag alone passes the flag's own value. -/
def State.setFlags (s : State) (z n h c : Bool) : State := { s with f := packFlags z n h c s.f }

/-- 0 or 1 in a sum. -/
def carryIn (c : Bool) : Nat := if c then 1 else 0

/-! ## 8-bit helpers (rules R170 to R174) -/

/-- What a helper answers: the result byte and the four flags. -/
structure AluOut where
  /-- The result. -/
  res : Byte
  /-- ZERO. -/
  z : Bool
  /-- SUBTRACT. -/
  n : Bool
  /-- HALF_CARRY. -/
  h : Bool
  /-- CARRY. -/
  c : Bool
  deriving DecidableEq, Repr

/-- An answer whose ZERO says whether the result is 0. -/
def aluOut (res : Byte) (n h c : Bool) : AluOut := ⟨res, res == 0, n, h, c⟩

/-- `ADC8(a, b, cin)` (rule R171). -/
def adc8 (a b : Byte) (cin : Bool) : AluOut :=
  aluOut (BitVec.ofNat 8 (a.toNat + b.toNat + carryIn cin)) false
    (decide (a.toNat % 16 + b.toNat % 16 + carryIn cin > 0xF))
    (decide (a.toNat + b.toNat + carryIn cin > 0xFF))

/-- `ADD8(a, b)` (rule R170). -/
def add8 (a b : Byte) : AluOut :=
  aluOut (BitVec.ofNat 8 (a.toNat + b.toNat)) false
    (decide (a.toNat % 16 + b.toNat % 16 > 0xF))
    (decide (a.toNat + b.toNat > 0xFF))

/-- `SBC8(a, b, cin)` (rule R173). -/
def sbc8 (a b : Byte) (cin : Bool) : AluOut :=
  aluOut (BitVec.ofInt 8 ((a.toNat : Int) - b.toNat - carryIn cin)) true
    (decide (a.toNat % 16 < b.toNat % 16 + carryIn cin))
    (decide (a.toNat < b.toNat + carryIn cin))

/-- `SUB8(a, b)` (rule R172). -/
def sub8 (a b : Byte) : AluOut :=
  aluOut (BitVec.ofInt 8 ((a.toNat : Int) - b.toNat)) true
    (decide (a.toNat % 16 < b.toNat % 16))
    (decide (a.toNat < b.toNat))

/-- `AND8(a, b)` (rule R174). -/
def and8 (a b : Byte) : AluOut := aluOut (a &&& b) false true false

/-- `XOR8(a, b)` (rule R174). -/
def xor8 (a b : Byte) : AluOut := aluOut (a ^^^ b) false false false

/-- `OR8(a, b)` (rule R174). -/
def or8 (a b : Byte) : AluOut := aluOut (a ||| b) false false false

/-- The helper an accumulator operation routes through (rules R176 to R183). -/
def alu (op : AluOp) (a v : Byte) (cin : Bool) : AluOut :=
  match op with
  | .add => add8 a v
  | .adc => adc8 a v cin
  | .sub => sub8 a v
  | .sbc => sbc8 a v cin
  | .and => and8 a v
  | .xor => xor8 a v
  | .or => or8 a v
  | .cp => sub8 a v

/-! ## DAA (rule R188) -/

/-- What DAA answers: the accumulator and CARRY. -/
structure DaaOut where
  /-- The accumulator. -/
  res : Byte
  /-- CARRY. -/
  c : Bool
  deriving DecidableEq, Repr

/-- The correction after an addition (N = 0): 0x06 and then 0x60, the second tested on the unmasked sum. -/
def daaAdd (a : Byte) (h c : Bool) : DaaOut :=
  let low := if h = true ∨ a.toNat % 16 > 0x09 then a.toNat + 0x06 else a.toNat
  let both := if c = true ∨ low > 0x9F then low + 0x60 else low
  ⟨BitVec.ofNat 8 both, c || decide (both > 0xFF)⟩

/-- The correction after a subtraction (N = 1): CARRY stays. -/
def daaSub (a : Byte) (h c : Bool) : DaaOut :=
  let low := if h then a - 0x06 else a
  ⟨if c then low - 0x60 else low, c⟩

/-- DAA on the accumulator and the flags N, Hf, Cf. -/
def daa (a : Byte) (n h c : Bool) : DaaOut := if n then daaSub a h c else daaAdd a h c

/-! ## 16-bit adds (rules R200 and R204) -/

/-- What a 16-bit add answers. -/
structure Add16Out where
  /-- The sum. -/
  res : Word
  /-- HALF_CARRY. -/
  h : Bool
  /-- CARRY. -/
  c : Bool
  deriving DecidableEq, Repr

/-- The sum of `ADD HL,rp`: carries out of bit 11 and bit 15 (rule R200). -/
def addHl16 (hl v : Word) : Add16Out where
  res := hl + v
  h := decide (hl.toNat % 0x1000 + v.toNat % 0x1000 > 0x0FFF)
  c := decide (hl.toNat + v.toNat > 0xFFFF)

/-- `SPADD(sp, d)`: the signed sum, with the carries of the unsigned add of the low byte (rule R204). -/
def spAdd (sp : Word) (d : Byte) : Add16Out where
  res := sp + signExtend16 d
  h := decide (sp.toNat % 16 + d.toNat % 16 > 0x0F)
  c := decide (sp.toNat % 256 + d.toNat > 0xFF)

/-! ## Rotates and shifts (rules R210 to R222) -/

/-- What a rotate or shift answers: the result and the bit shifted out. -/
structure RotOut where
  /-- The result. -/
  res : Byte
  /-- CARRY. -/
  c : Bool
  deriving DecidableEq, Repr

/-- Rotate left circular (rule R215). -/
def rlc8 (v : Byte) : RotOut := ⟨v.extractLsb' 0 7 ++ v.extractLsb' 7 1, v.getLsbD 7⟩

/-- Rotate right circular (rule R216). -/
def rrc8 (v : Byte) : RotOut := ⟨v.extractLsb' 0 1 ++ v.extractLsb' 1 7, v.getLsbD 0⟩

/-- Rotate left through carry (rule R217). -/
def rl8 (v : Byte) (cin : Bool) : RotOut := ⟨v.extractLsb' 0 7 ++ BitVec.ofBool cin, v.getLsbD 7⟩

/-- Rotate right through carry (rule R218). -/
def rr8 (v : Byte) (cin : Bool) : RotOut := ⟨BitVec.ofBool cin ++ v.extractLsb' 1 7, v.getLsbD 0⟩

/-- Shift left arithmetic (rule R219). -/
def sla8 (v : Byte) : RotOut := ⟨v.extractLsb' 0 7 ++ 0#1, v.getLsbD 7⟩

/-- Shift right arithmetic: bit 7 stays (rule R220). -/
def sra8 (v : Byte) : RotOut := ⟨v.extractLsb' 7 1 ++ v.extractLsb' 1 7, v.getLsbD 0⟩

/-- Exchange the nibbles; no bit is shifted out (rule R221). -/
def swap8 (v : Byte) : RotOut := ⟨v.extractLsb' 0 4 ++ v.extractLsb' 4 4, false⟩

/-- Shift right logical (rule R222). -/
def srl8 (v : Byte) : RotOut := ⟨0#1 ++ v.extractLsb' 1 7, v.getLsbD 0⟩

/-- The operation of the `rot` field. -/
def rotate (op : RotOp) (v : Byte) (cin : Bool) : RotOut :=
  match op with
  | .rlc => rlc8 v
  | .rrc => rrc8 v
  | .rl => rl8 v cin
  | .rr => rr8 v cin
  | .sla => sla8 v
  | .sra => sra8 v
  | .swap => swap8 v
  | .srl => srl8 v

/-! ## Conditions (rule R240) -/

/-- `cond(cc)`. -/
def State.cond (s : State) (cc : Cond) : Bool :=
  match cc with
  | .nz => !s.flagZ
  | .z => s.flagZ
  | .nc => !s.flagC
  | .c => s.flagC

end Sys2Proof.Machine
end

