-- ==== Sys2Proof/Machine/Operands.lean ====
section
/-! DEFINITION. The operand forms (rules R7, R22, R103, R175 and R214): a register, a pair, the byte HL points at.
Immediates are fields of the instruction. -/

namespace Sys2Proof.Machine

/-- `r[i]` for a register field. -/
def State.reg8 (s : State) (r : Reg8) : Byte :=
  match r with
  | .b => s.b
  | .c => s.c
  | .d => s.d
  | .e => s.e
  | .h => s.h
  | .l => s.l
  | .a => s.a

/-- `r[i] <- v` for a register field. -/
def State.setReg8 (s : State) (r : Reg8) (v : Byte) : State :=
  match r with
  | .b => { s with b := v }
  | .c => { s with c := v }
  | .d => { s with d := v }
  | .e => { s with e := v }
  | .h => { s with h := v }
  | .l => { s with l := v }
  | .a => { s with a := v }

/-- `rp[i]`. -/
def State.pair (s : State) (rp : Pair) : Word :=
  match rp with
  | .bc => s.bc
  | .de => s.de
  | .hl => s.hl
  | .sp => s.sp

/-- `rp[i] <- v`. -/
def State.setPair (s : State) (rp : Pair) (v : Word) : State :=
  match rp with
  | .bc => s.setBc v
  | .de => s.setDe v
  | .hl => s.setHl v
  | .sp => s.setSp v

/-- `rp2[i]`. -/
def State.stackPair (s : State) (q : StackPair) : Word :=
  match q with
  | .bc => s.bc
  | .de => s.de
  | .hl => s.hl
  | .af => s.af

/-- `rp2[i] <- v`. -/
def State.setStackPair (s : State) (q : StackPair) (v : Word) : State :=
  match q with
  | .bc => s.setBc v
  | .de => s.setDe v
  | .hl => s.setHl v
  | .af => s.setAf v

/-- The byte HL points at, `MemRead(HL, 1)`. -/
def State.atHl (s : State) : Byte := s.busRead s.hl

/-- `MemWrite(HL, 1, v)`. -/
def State.setAtHl (s : State) (v : Byte) : State := s.busWrite s.hl v

/-- The value of the operand `s = r[z]` of a prefixed instruction (rule R214). -/
def State.operand8 (s : State) (o : Operand8) : Byte :=
  match o with
  | .reg r => s.reg8 r
  | .atHl => s.atHl

/-- A result written back to the operand (rule R214). -/
def State.setOperand8 (s : State) (o : Operand8) (v : Byte) : State :=
  match o with
  | .reg r => s.setReg8 r v
  | .atHl => s.setAtHl v

/-- The cost of a prefixed instruction that writes its operand back: 2, or 4 for `(HL)` (rule R214). -/
def modifyCost (o : Operand8) : Nat :=
  match o with
  | .reg _ => 2
  | .atHl => 4

/-- The cost of `BIT b,s`: 2, or 3 for `(HL)` (rules R214 and R223). -/
def testCost (o : Operand8) : Nat :=
  match o with
  | .reg _ => 2
  | .atHl => 3

end Sys2Proof.Machine
end

