-- ==== Sys2Proof/Machine/Alu16.lean ====
section
/-! DEFINITION. 16-bit arithmetic (spec/43_alu16.md). One operation for each rule, and then one definition for each row of the opcode table. -/

namespace Sys2Proof.Machine

/-- `ADD HL,rp` (rule R200): N cleared, Z kept. -/
def addHl (rp : Pair) (s : State) : State :=
  let sum := addHl16 s.hl (s.pair rp)
  ((s.setHl sum.res).setFlags s.flagZ false sum.h sum.c).took 2

/-- `INC rp` (rule R201): no flag. -/
def incPair (rp : Pair) (s : State) : State := (s.setPair rp (s.pair rp + 1)).took 2

/-- `DEC rp` (rule R202): no flag. -/
def decPair (rp : Pair) (s : State) : State := (s.setPair rp (s.pair rp - 1)).took 2

/-- `ADD SP,d` (rule R203). -/
def addSpDisp (d : Byte) (s : State) : State :=
  let sum := spAdd s.sp d
  ((s.setSp sum.res).setFlags false false sum.h sum.c).took 4

/-- `INC BC` (rule R201). -/
def execIncBc (s : State) : Result := .next (incPair .bc s)

/-- `ADD HL,BC` (rule R200). -/
def execAddHlBc (s : State) : Result := .next (addHl .bc s)

/-- `DEC BC` (rule R202). -/
def execDecBc (s : State) : Result := .next (decPair .bc s)

/-- `INC DE` (rule R201). -/
def execIncDe (s : State) : Result := .next (incPair .de s)

/-- `ADD HL,DE` (rule R200). -/
def execAddHlDe (s : State) : Result := .next (addHl .de s)

/-- `DEC DE` (rule R202). -/
def execDecDe (s : State) : Result := .next (decPair .de s)

/-- `INC HL` (rule R201). -/
def execIncHl (s : State) : Result := .next (incPair .hl s)

/-- `ADD HL,HL` (rule R200). -/
def execAddHlHl (s : State) : Result := .next (addHl .hl s)

/-- `DEC HL` (rule R202). -/
def execDecHl (s : State) : Result := .next (decPair .hl s)

/-- `INC SP` (rule R201). -/
def execIncSp (s : State) : Result := .next (incPair .sp s)

/-- `ADD HL,SP` (rule R200). -/
def execAddHlSp (s : State) : Result := .next (addHl .sp s)

/-- `DEC SP` (rule R202). -/
def execDecSp (s : State) : Result := .next (decPair .sp s)

/-- `ADD SP,d` (rule R203). -/
def execAddSpD8 (d : Byte) (s : State) : Result := .next (addSpDisp d s)

end Sys2Proof.Machine
end

