-- ==== Sys2Proof/Machine/Alu8.lean ====
section
/-! DEFINITION. 8-bit arithmetic and logic (spec/42_alu8.md). One operation for each rule, and then one definition for each row of the opcode table. -/

namespace Sys2Proof.Machine

/-- An accumulator operation on the operand value `v` (rules R176 to R183): the helper's four flags are written, and its
result goes to A unless the operation is CP, which discards it. -/
def aluWith (op : AluOp) (v : Byte) (s : State) : State :=
  let out := alu op s.a v s.flagC
  let flagged := s.setFlags out.z out.n out.h out.c
  match op with
  | .cp => flagged
  | .add | .adc | .sub | .sbc | .and | .xor | .or => flagged.setA out.res

/-- The register form (rule R175). -/
def aluReg (op : AluOp) (r : Reg8) (s : State) : State := (aluWith op (s.reg8 r) s).took 1

/-- The memory form (rule R175). -/
def aluAtHl (op : AluOp) (s : State) : State := (aluWith op s.atHl s).took 2

/-- The immediate form (rule R175). -/
def aluImm (op : AluOp) (n : Byte) (s : State) : State := (aluWith op n s).took 2

/-- The flags of `INC`: those of `ADD8(v, 1)` with Cf as it was (rule R184). -/
def incFlags (v : Byte) (s : State) : State := s.setFlags (add8 v 1).z false (add8 v 1).h s.flagC

/-- The flags of `DEC`: those of `SUB8(v, 1)` with Cf as it was (rule R186). -/
def decFlags (v : Byte) (s : State) : State := s.setFlags (sub8 v 1).z true (sub8 v 1).h s.flagC

/-- `INC r` (rule R184). -/
def incReg (r : Reg8) (s : State) : State := ((incFlags (s.reg8 r) s).setReg8 r (add8 (s.reg8 r) 1).res).took 1

/-- `INC (HL)` (rule R185). -/
def incAtHl (s : State) : State := (incFlags s.atHl (s.setAtHl (add8 s.atHl 1).res)).took 3

/-- `DEC r` (rule R186). -/
def decReg (r : Reg8) (s : State) : State := ((decFlags (s.reg8 r) s).setReg8 r (sub8 (s.reg8 r) 1).res).took 1

/-- `DEC (HL)` (rule R187). -/
def decAtHl (s : State) : State := (decFlags s.atHl (s.setAtHl (sub8 s.atHl 1).res)).took 3

/-- `DAA` (rule R188): Z from the result, N kept, Hf cleared. -/
def decimalAdjust (s : State) : State :=
  let out := daa s.a s.flagN s.flagH s.flagC
  ((s.setA out.res).setFlags (out.res == 0) s.flagN false out.c).took 1

/-- `CPL` (rule R189): Z and Cf kept. -/
def complementA (s : State) : State := ((s.setA (~~~s.a)).setFlags s.flagZ true true s.flagC).took 1

/-- `SCF` (rule R190): Z kept. -/
def setCarry (s : State) : State := (s.setFlags s.flagZ false false true).took 1

/-- `CCF` (rule R191): Z kept. -/
def complementCarry (s : State) : State := (s.setFlags s.flagZ false false (!s.flagC)).took 1

/-- `INC B` (rule R184). -/
def execIncB (s : State) : Result := .next (incReg .b s)

/-- `DEC B` (rule R186). -/
def execDecB (s : State) : Result := .next (decReg .b s)

/-- `INC C` (rule R184). -/
def execIncC (s : State) : Result := .next (incReg .c s)

/-- `DEC C` (rule R186). -/
def execDecC (s : State) : Result := .next (decReg .c s)

/-- `INC D` (rule R184). -/
def execIncD (s : State) : Result := .next (incReg .d s)

/-- `DEC D` (rule R186). -/
def execDecD (s : State) : Result := .next (decReg .d s)

/-- `INC E` (rule R184). -/
def execIncE (s : State) : Result := .next (incReg .e s)

/-- `DEC E` (rule R186). -/
def execDecE (s : State) : Result := .next (decReg .e s)

/-- `INC H` (rule R184). -/
def execIncH (s : State) : Result := .next (incReg .h s)

/-- `DEC H` (rule R186). -/
def execDecH (s : State) : Result := .next (decReg .h s)

/-- `DAA` (rule R188). -/
def execDaa (s : State) : Result := .next (decimalAdjust s)

/-- `INC L` (rule R184). -/
def execIncL (s : State) : Result := .next (incReg .l s)

/-- `DEC L` (rule R186). -/
def execDecL (s : State) : Result := .next (decReg .l s)

/-- `CPL` (rule R189). -/
def execCpl (s : State) : Result := .next (complementA s)

/-- `INC (HL)` (rule R185). -/
def execIncAtHl (s : State) : Result := .next (incAtHl s)

/-- `DEC (HL)` (rule R187). -/
def execDecAtHl (s : State) : Result := .next (decAtHl s)

/-- `SCF` (rule R190). -/
def execScf (s : State) : Result := .next (setCarry s)

/-- `INC A` (rule R184). -/
def execIncA (s : State) : Result := .next (incReg .a s)

/-- `DEC A` (rule R186). -/
def execDecA (s : State) : Result := .next (decReg .a s)

/-- `CCF` (rule R191). -/
def execCcf (s : State) : Result := .next (complementCarry s)

/-- `ADD A,B` (rule R176). -/
def execAddAB (s : State) : Result := .next (aluReg .add .b s)

/-- `ADD A,C` (rule R176). -/
def execAddAC (s : State) : Result := .next (aluReg .add .c s)

/-- `ADD A,D` (rule R176). -/
def execAddAD (s : State) : Result := .next (aluReg .add .d s)

/-- `ADD A,E` (rule R176). -/
def execAddAE (s : State) : Result := .next (aluReg .add .e s)

/-- `ADD A,H` (rule R176). -/
def execAddAH (s : State) : Result := .next (aluReg .add .h s)

/-- `ADD A,L` (rule R176). -/
def execAddAL (s : State) : Result := .next (aluReg .add .l s)

/-- `ADD A,(HL)` (rule R176). -/
def execAddAAtHl (s : State) : Result := .next (aluAtHl .add s)

/-- `ADD A,A` (rule R176). -/
def execAddAA (s : State) : Result := .next (aluReg .add .a s)

/-- `ADC A,B` (rule R177). -/
def execAdcAB (s : State) : Result := .next (aluReg .adc .b s)

/-- `ADC A,C` (rule R177). -/
def execAdcAC (s : State) : Result := .next (aluReg .adc .c s)

/-- `ADC A,D` (rule R177). -/
def execAdcAD (s : State) : Result := .next (aluReg .adc .d s)

/-- `ADC A,E` (rule R177). -/
def execAdcAE (s : State) : Result := .next (aluReg .adc .e s)

/-- `ADC A,H` (rule R177). -/
def execAdcAH (s : State) : Result := .next (aluReg .adc .h s)

/-- `ADC A,L` (rule R177). -/
def execAdcAL (s : State) : Result := .next (aluReg .adc .l s)

/-- `ADC A,(HL)` (rule R177). -/
def execAdcAAtHl (s : State) : Result := .next (aluAtHl .adc s)

/-- `ADC A,A` (rule R177). -/
def execAdcAA (s : State) : Result := .next (aluReg .adc .a s)

/-- `SUB B` (rule R178). -/
def execSubB (s : State) : Result := .next (aluReg .sub .b s)

/-- `SUB C` (rule R178). -/
def execSubC (s : State) : Result := .next (aluReg .sub .c s)

/-- `SUB D` (rule R178). -/
def execSubD (s : State) : Result := .next (aluReg .sub .d s)

/-- `SUB E` (rule R178). -/
def execSubE (s : State) : Result := .next (aluReg .sub .e s)

/-- `SUB H` (rule R178). -/
def execSubH (s : State) : Result := .next (aluReg .sub .h s)

/-- `SUB L` (rule R178). -/
def execSubL (s : State) : Result := .next (aluReg .sub .l s)

/-- `SUB (HL)` (rule R178). -/
def execSubAtHl (s : State) : Result := .next (aluAtHl .sub s)

/-- `SUB A` (rule R178). -/
def execSubA (s : State) : Result := .next (aluReg .sub .a s)

/-- `SBC A,B` (rule R179). -/
def execSbcAB (s : State) : Result := .next (aluReg .sbc .b s)

/-- `SBC A,C` (rule R179). -/
def execSbcAC (s : State) : Result := .next (aluReg .sbc .c s)

/-- `SBC A,D` (rule R179). -/
def execSbcAD (s : State) : Result := .next (aluReg .sbc .d s)

/-- `SBC A,E` (rule R179). -/
def execSbcAE (s : State) : Result := .next (aluReg .sbc .e s)

/-- `SBC A,H` (rule R179). -/
def execSbcAH (s : State) : Result := .next (aluReg .sbc .h s)

/-- `SBC A,L` (rule R179). -/
def execSbcAL (s : State) : Result := .next (aluReg .sbc .l s)

/-- `SBC A,(HL)` (rule R179). -/
def execSbcAAtHl (s : State) : Result := .next (aluAtHl .sbc s)

/-- `SBC A,A` (rule R179). -/
def execSbcAA (s : State) : Result := .next (aluReg .sbc .a s)

/-- `AND B` (rule R180). -/
def execAndB (s : State) : Result := .next (aluReg .and .b s)

/-- `AND C` (rule R180). -/
def execAndC (s : State) : Result := .next (aluReg .and .c s)

/-- `AND D` (rule R180). -/
def execAndD (s : State) : Result := .next (aluReg .and .d s)

/-- `AND E` (rule R180). -/
def execAndE (s : State) : Result := .next (aluReg .and .e s)

/-- `AND H` (rule R180). -/
def execAndH (s : State) : Result := .next (aluReg .and .h s)

/-- `AND L` (rule R180). -/
def execAndL (s : State) : Result := .next (aluReg .and .l s)

/-- `AND (HL)` (rule R180). -/
def execAndAtHl (s : State) : Result := .next (aluAtHl .and s)

/-- `AND A` (rule R180). -/
def execAndA (s : State) : Result := .next (aluReg .and .a s)

/-- `XOR B` (rule R181). -/
def execXorB (s : State) : Result := .next (aluReg .xor .b s)

/-- `XOR C` (rule R181). -/
def execXorC (s : State) : Result := .next (aluReg .xor .c s)

/-- `XOR D` (rule R181). -/
def execXorD (s : State) : Result := .next (aluReg .xor .d s)

/-- `XOR E` (rule R181). -/
def execXorE (s : State) : Result := .next (aluReg .xor .e s)

/-- `XOR H` (rule R181). -/
def execXorH (s : State) : Result := .next (aluReg .xor .h s)

/-- `XOR L` (rule R181). -/
def execXorL (s : State) : Result := .next (aluReg .xor .l s)

/-- `XOR (HL)` (rule R181). -/
def execXorAtHl (s : State) : Result := .next (aluAtHl .xor s)

/-- `XOR A` (rule R181). -/
def execXorA (s : State) : Result := .next (aluReg .xor .a s)

/-- `OR B` (rule R182). -/
def execOrB (s : State) : Result := .next (aluReg .or .b s)

/-- `OR C` (rule R182). -/
def execOrC (s : State) : Result := .next (aluReg .or .c s)

/-- `OR D` (rule R182). -/
def execOrD (s : State) : Result := .next (aluReg .or .d s)

/-- `OR E` (rule R182). -/
def execOrE (s : State) : Result := .next (aluReg .or .e s)

/-- `OR H` (rule R182). -/
def execOrH (s : State) : Result := .next (aluReg .or .h s)

/-- `OR L` (rule R182). -/
def execOrL (s : State) : Result := .next (aluReg .or .l s)

/-- `OR (HL)` (rule R182). -/
def execOrAtHl (s : State) : Result := .next (aluAtHl .or s)

/-- `OR A` (rule R182). -/
def execOrA (s : State) : Result := .next (aluReg .or .a s)

/-- `CP B` (rule R183). -/
def execCpB (s : State) : Result := .next (aluReg .cp .b s)

/-- `CP C` (rule R183). -/
def execCpC (s : State) : Result := .next (aluReg .cp .c s)

/-- `CP D` (rule R183). -/
def execCpD (s : State) : Result := .next (aluReg .cp .d s)

/-- `CP E` (rule R183). -/
def execCpE (s : State) : Result := .next (aluReg .cp .e s)

/-- `CP H` (rule R183). -/
def execCpH (s : State) : Result := .next (aluReg .cp .h s)

/-- `CP L` (rule R183). -/
def execCpL (s : State) : Result := .next (aluReg .cp .l s)

/-- `CP (HL)` (rule R183). -/
def execCpAtHl (s : State) : Result := .next (aluAtHl .cp s)

/-- `CP A` (rule R183). -/
def execCpA (s : State) : Result := .next (aluReg .cp .a s)

/-- `ADD A,n` (rule R176). -/
def execAddAN (n : Byte) (s : State) : Result := .next (aluImm .add n s)

/-- `ADC A,n` (rule R177). -/
def execAdcAN (n : Byte) (s : State) : Result := .next (aluImm .adc n s)

/-- `SUB n` (rule R178). -/
def execSubN (n : Byte) (s : State) : Result := .next (aluImm .sub n s)

/-- `SBC A,n` (rule R179). -/
def execSbcAN (n : Byte) (s : State) : Result := .next (aluImm .sbc n s)

/-- `AND n` (rule R180). -/
def execAndN (n : Byte) (s : State) : Result := .next (aluImm .and n s)

/-- `XOR n` (rule R181). -/
def execXorN (n : Byte) (s : State) : Result := .next (aluImm .xor n s)

/-- `OR n` (rule R182). -/
def execOrN (n : Byte) (s : State) : Result := .next (aluImm .or n s)

/-- `CP n` (rule R183). -/
def execCpN (n : Byte) (s : State) : Result := .next (aluImm .cp n s)

end Sys2Proof.Machine
end

