-- ==== Sys2Proof/Machine/BitOps.lean ====
section
/-! DEFINITION. Bit test, reset and set (spec/44_rotates_bits.md rules R223 to R225). One operation for each rule, and then one definition for each row of the opcode table. -/

namespace Sys2Proof.Machine

/-- `BIT b,s` (rule R223): Z iff the bit is 0, N cleared, Hf set, Cf kept; nothing is written back. -/
def bitTest (b : Fin 8) (o : Operand8) (s : State) : State :=
  (s.setFlags (!(s.operand8 o).getLsbD b) false true s.flagC).took (testCost o)

/-- `RES b,s` (rule R224): no flag. -/
def bitRes (b : Fin 8) (o : Operand8) (s : State) : State :=
  (s.setOperand8 o (s.operand8 o &&& ~~~(BitVec.twoPow 8 b))).took (modifyCost o)

/-- `SET b,s` (rule R225): no flag. -/
def bitSet (b : Fin 8) (o : Operand8) (s : State) : State :=
  (s.setOperand8 o (s.operand8 o ||| BitVec.twoPow 8 b)).took (modifyCost o)

/-- `BIT 0,B` (rule R223). -/
def execBit0B (s : State) : Result := .next (bitTest 0 (.reg .b) s)

/-- `BIT 0,C` (rule R223). -/
def execBit0C (s : State) : Result := .next (bitTest 0 (.reg .c) s)

/-- `BIT 0,D` (rule R223). -/
def execBit0D (s : State) : Result := .next (bitTest 0 (.reg .d) s)

/-- `BIT 0,E` (rule R223). -/
def execBit0E (s : State) : Result := .next (bitTest 0 (.reg .e) s)

/-- `BIT 0,H` (rule R223). -/
def execBit0H (s : State) : Result := .next (bitTest 0 (.reg .h) s)

/-- `BIT 0,L` (rule R223). -/
def execBit0L (s : State) : Result := .next (bitTest 0 (.reg .l) s)

/-- `BIT 0,(HL)` (rule R223). -/
def execBit0AtHl (s : State) : Result := .next (bitTest 0 .atHl s)

/-- `BIT 0,A` (rule R223). -/
def execBit0A (s : State) : Result := .next (bitTest 0 (.reg .a) s)

/-- `BIT 1,B` (rule R223). -/
def execBit1B (s : State) : Result := .next (bitTest 1 (.reg .b) s)

/-- `BIT 1,C` (rule R223). -/
def execBit1C (s : State) : Result := .next (bitTest 1 (.reg .c) s)

/-- `BIT 1,D` (rule R223). -/
def execBit1D (s : State) : Result := .next (bitTest 1 (.reg .d) s)

/-- `BIT 1,E` (rule R223). -/
def execBit1E (s : State) : Result := .next (bitTest 1 (.reg .e) s)

/-- `BIT 1,H` (rule R223). -/
def execBit1H (s : State) : Result := .next (bitTest 1 (.reg .h) s)

/-- `BIT 1,L` (rule R223). -/
def execBit1L (s : State) : Result := .next (bitTest 1 (.reg .l) s)

/-- `BIT 1,(HL)` (rule R223). -/
def execBit1AtHl (s : State) : Result := .next (bitTest 1 .atHl s)

/-- `BIT 1,A` (rule R223). -/
def execBit1A (s : State) : Result := .next (bitTest 1 (.reg .a) s)

/-- `BIT 2,B` (rule R223). -/
def execBit2B (s : State) : Result := .next (bitTest 2 (.reg .b) s)

/-- `BIT 2,C` (rule R223). -/
def execBit2C (s : State) : Result := .next (bitTest 2 (.reg .c) s)

/-- `BIT 2,D` (rule R223). -/
def execBit2D (s : State) : Result := .next (bitTest 2 (.reg .d) s)

/-- `BIT 2,E` (rule R223). -/
def execBit2E (s : State) : Result := .next (bitTest 2 (.reg .e) s)

/-- `BIT 2,H` (rule R223). -/
def execBit2H (s : State) : Result := .next (bitTest 2 (.reg .h) s)

/-- `BIT 2,L` (rule R223). -/
def execBit2L (s : State) : Result := .next (bitTest 2 (.reg .l) s)

/-- `BIT 2,(HL)` (rule R223). -/
def execBit2AtHl (s : State) : Result := .next (bitTest 2 .atHl s)

/-- `BIT 2,A` (rule R223). -/
def execBit2A (s : State) : Result := .next (bitTest 2 (.reg .a) s)

/-- `BIT 3,B` (rule R223). -/
def execBit3B (s : State) : Result := .next (bitTest 3 (.reg .b) s)

/-- `BIT 3,C` (rule R223). -/
def execBit3C (s : State) : Result := .next (bitTest 3 (.reg .c) s)

/-- `BIT 3,D` (rule R223). -/
def execBit3D (s : State) : Result := .next (bitTest 3 (.reg .d) s)

/-- `BIT 3,E` (rule R223). -/
def execBit3E (s : State) : Result := .next (bitTest 3 (.reg .e) s)

/-- `BIT 3,H` (rule R223). -/
def execBit3H (s : State) : Result := .next (bitTest 3 (.reg .h) s)

/-- `BIT 3,L` (rule R223). -/
def execBit3L (s : State) : Result := .next (bitTest 3 (.reg .l) s)

/-- `BIT 3,(HL)` (rule R223). -/
def execBit3AtHl (s : State) : Result := .next (bitTest 3 .atHl s)

/-- `BIT 3,A` (rule R223). -/
def execBit3A (s : State) : Result := .next (bitTest 3 (.reg .a) s)

/-- `BIT 4,B` (rule R223). -/
def execBit4B (s : State) : Result := .next (bitTest 4 (.reg .b) s)

/-- `BIT 4,C` (rule R223). -/
def execBit4C (s : State) : Result := .next (bitTest 4 (.reg .c) s)

/-- `BIT 4,D` (rule R223). -/
def execBit4D (s : State) : Result := .next (bitTest 4 (.reg .d) s)

/-- `BIT 4,E` (rule R223). -/
def execBit4E (s : State) : Result := .next (bitTest 4 (.reg .e) s)

/-- `BIT 4,H` (rule R223). -/
def execBit4H (s : State) : Result := .next (bitTest 4 (.reg .h) s)

/-- `BIT 4,L` (rule R223). -/
def execBit4L (s : State) : Result := .next (bitTest 4 (.reg .l) s)

/-- `BIT 4,(HL)` (rule R223). -/
def execBit4AtHl (s : State) : Result := .next (bitTest 4 .atHl s)

/-- `BIT 4,A` (rule R223). -/
def execBit4A (s : State) : Result := .next (bitTest 4 (.reg .a) s)

/-- `BIT 5,B` (rule R223). -/
def execBit5B (s : State) : Result := .next (bitTest 5 (.reg .b) s)

/-- `BIT 5,C` (rule R223). -/
def execBit5C (s : State) : Result := .next (bitTest 5 (.reg .c) s)

/-- `BIT 5,D` (rule R223). -/
def execBit5D (s : State) : Result := .next (bitTest 5 (.reg .d) s)

/-- `BIT 5,E` (rule R223). -/
def execBit5E (s : State) : Result := .next (bitTest 5 (.reg .e) s)

/-- `BIT 5,H` (rule R223). -/
def execBit5H (s : State) : Result := .next (bitTest 5 (.reg .h) s)

/-- `BIT 5,L` (rule R223). -/
def execBit5L (s : State) : Result := .next (bitTest 5 (.reg .l) s)

/-- `BIT 5,(HL)` (rule R223). -/
def execBit5AtHl (s : State) : Result := .next (bitTest 5 .atHl s)

/-- `BIT 5,A` (rule R223). -/
def execBit5A (s : State) : Result := .next (bitTest 5 (.reg .a) s)

/-- `BIT 6,B` (rule R223). -/
def execBit6B (s : State) : Result := .next (bitTest 6 (.reg .b) s)

/-- `BIT 6,C` (rule R223). -/
def execBit6C (s : State) : Result := .next (bitTest 6 (.reg .c) s)

/-- `BIT 6,D` (rule R223). -/
def execBit6D (s : State) : Result := .next (bitTest 6 (.reg .d) s)

/-- `BIT 6,E` (rule R223). -/
def execBit6E (s : State) : Result := .next (bitTest 6 (.reg .e) s)

/-- `BIT 6,H` (rule R223). -/
def execBit6H (s : State) : Result := .next (bitTest 6 (.reg .h) s)

/-- `BIT 6,L` (rule R223). -/
def execBit6L (s : State) : Result := .next (bitTest 6 (.reg .l) s)

/-- `BIT 6,(HL)` (rule R223). -/
def execBit6AtHl (s : State) : Result := .next (bitTest 6 .atHl s)

/-- `BIT 6,A` (rule R223). -/
def execBit6A (s : State) : Result := .next (bitTest 6 (.reg .a) s)

/-- `BIT 7,B` (rule R223). -/
def execBit7B (s : State) : Result := .next (bitTest 7 (.reg .b) s)

/-- `BIT 7,C` (rule R223). -/
def execBit7C (s : State) : Result := .next (bitTest 7 (.reg .c) s)

/-- `BIT 7,D` (rule R223). -/
def execBit7D (s : State) : Result := .next (bitTest 7 (.reg .d) s)

/-- `BIT 7,E` (rule R223). -/
def execBit7E (s : State) : Result := .next (bitTest 7 (.reg .e) s)

/-- `BIT 7,H` (rule R223). -/
def execBit7H (s : State) : Result := .next (bitTest 7 (.reg .h) s)

/-- `BIT 7,L` (rule R223). -/
def execBit7L (s : State) : Result := .next (bitTest 7 (.reg .l) s)

/-- `BIT 7,(HL)` (rule R223). -/
def execBit7AtHl (s : State) : Result := .next (bitTest 7 .atHl s)

/-- `BIT 7,A` (rule R223). -/
def execBit7A (s : State) : Result := .next (bitTest 7 (.reg .a) s)

/-- `RES 0,B` (rule R224). -/
def execRes0B (s : State) : Result := .next (bitRes 0 (.reg .b) s)

/-- `RES 0,C` (rule R224). -/
def execRes0C (s : State) : Result := .next (bitRes 0 (.reg .c) s)

/-- `RES 0,D` (rule R224). -/
def execRes0D (s : State) : Result := .next (bitRes 0 (.reg .d) s)

/-- `RES 0,E` (rule R224). -/
def execRes0E (s : State) : Result := .next (bitRes 0 (.reg .e) s)

/-- `RES 0,H` (rule R224). -/
def execRes0H (s : State) : Result := .next (bitRes 0 (.reg .h) s)

/-- `RES 0,L` (rule R224). -/
def execRes0L (s : State) : Result := .next (bitRes 0 (.reg .l) s)

/-- `RES 0,(HL)` (rule R224). -/
def execRes0AtHl (s : State) : Result := .next (bitRes 0 .atHl s)

/-- `RES 0,A` (rule R224). -/
def execRes0A (s : State) : Result := .next (bitRes 0 (.reg .a) s)

/-- `RES 1,B` (rule R224). -/
def execRes1B (s : State) : Result := .next (bitRes 1 (.reg .b) s)

/-- `RES 1,C` (rule R224). -/
def execRes1C (s : State) : Result := .next (bitRes 1 (.reg .c) s)

/-- `RES 1,D` (rule R224). -/
def execRes1D (s : State) : Result := .next (bitRes 1 (.reg .d) s)

/-- `RES 1,E` (rule R224). -/
def execRes1E (s : State) : Result := .next (bitRes 1 (.reg .e) s)

/-- `RES 1,H` (rule R224). -/
def execRes1H (s : State) : Result := .next (bitRes 1 (.reg .h) s)

/-- `RES 1,L` (rule R224). -/
def execRes1L (s : State) : Result := .next (bitRes 1 (.reg .l) s)

/-- `RES 1,(HL)` (rule R224). -/
def execRes1AtHl (s : State) : Result := .next (bitRes 1 .atHl s)

/-- `RES 1,A` (rule R224). -/
def execRes1A (s : State) : Result := .next (bitRes 1 (.reg .a) s)

/-- `RES 2,B` (rule R224). -/
def execRes2B (s : State) : Result := .next (bitRes 2 (.reg .b) s)

/-- `RES 2,C` (rule R224). -/
def execRes2C (s : State) : Result := .next (bitRes 2 (.reg .c) s)

/-- `RES 2,D` (rule R224). -/
def execRes2D (s : State) : Result := .next (bitRes 2 (.reg .d) s)

/-- `RES 2,E` (rule R224). -/
def execRes2E (s : State) : Result := .next (bitRes 2 (.reg .e) s)

/-- `RES 2,H` (rule R224). -/
def execRes2H (s : State) : Result := .next (bitRes 2 (.reg .h) s)

/-- `RES 2,L` (rule R224). -/
def execRes2L (s : State) : Result := .next (bitRes 2 (.reg .l) s)

/-- `RES 2,(HL)` (rule R224). -/
def execRes2AtHl (s : State) : Result := .next (bitRes 2 .atHl s)

/-- `RES 2,A` (rule R224). -/
def execRes2A (s : State) : Result := .next (bitRes 2 (.reg .a) s)

/-- `RES 3,B` (rule R224). -/
def execRes3B (s : State) : Result := .next (bitRes 3 (.reg .b) s)

/-- `RES 3,C` (rule R224). -/
def execRes3C (s : State) : Result := .next (bitRes 3 (.reg .c) s)

/-- `RES 3,D` (rule R224). -/
def execRes3D (s : State) : Result := .next (bitRes 3 (.reg .d) s)

/-- `RES 3,E` (rule R224). -/
def execRes3E (s : State) : Result := .next (bitRes 3 (.reg .e) s)

/-- `RES 3,H` (rule R224). -/
def execRes3H (s : State) : Result := .next (bitRes 3 (.reg .h) s)

/-- `RES 3,L` (rule R224). -/
def execRes3L (s : State) : Result := .next (bitRes 3 (.reg .l) s)

/-- `RES 3,(HL)` (rule R224). -/
def execRes3AtHl (s : State) : Result := .next (bitRes 3 .atHl s)

/-- `RES 3,A` (rule R224). -/
def execRes3A (s : State) : Result := .next (bitRes 3 (.reg .a) s)

/-- `RES 4,B` (rule R224). -/
def execRes4B (s : State) : Result := .next (bitRes 4 (.reg .b) s)

/-- `RES 4,C` (rule R224). -/
def execRes4C (s : State) : Result := .next (bitRes 4 (.reg .c) s)

/-- `RES 4,D` (rule R224). -/
def execRes4D (s : State) : Result := .next (bitRes 4 (.reg .d) s)

/-- `RES 4,E` (rule R224). -/
def execRes4E (s : State) : Result := .next (bitRes 4 (.reg .e) s)

/-- `RES 4,H` (rule R224). -/
def execRes4H (s : State) : Result := .next (bitRes 4 (.reg .h) s)

/-- `RES 4,L` (rule R224). -/
def execRes4L (s : State) : Result := .next (bitRes 4 (.reg .l) s)

/-- `RES 4,(HL)` (rule R224). -/
def execRes4AtHl (s : State) : Result := .next (bitRes 4 .atHl s)

/-- `RES 4,A` (rule R224). -/
def execRes4A (s : State) : Result := .next (bitRes 4 (.reg .a) s)

/-- `RES 5,B` (rule R224). -/
def execRes5B (s : State) : Result := .next (bitRes 5 (.reg .b) s)

/-- `RES 5,C` (rule R224). -/
def execRes5C (s : State) : Result := .next (bitRes 5 (.reg .c) s)

/-- `RES 5,D` (rule R224). -/
def execRes5D (s : State) : Result := .next (bitRes 5 (.reg .d) s)

/-- `RES 5,E` (rule R224). -/
def execRes5E (s : State) : Result := .next (bitRes 5 (.reg .e) s)

/-- `RES 5,H` (rule R224). -/
def execRes5H (s : State) : Result := .next (bitRes 5 (.reg .h) s)

/-- `RES 5,L` (rule R224). -/
def execRes5L (s : State) : Result := .next (bitRes 5 (.reg .l) s)

/-- `RES 5,(HL)` (rule R224). -/
def execRes5AtHl (s : State) : Result := .next (bitRes 5 .atHl s)

/-- `RES 5,A` (rule R224). -/
def execRes5A (s : State) : Result := .next (bitRes 5 (.reg .a) s)

/-- `RES 6,B` (rule R224). -/
def execRes6B (s : State) : Result := .next (bitRes 6 (.reg .b) s)

/-- `RES 6,C` (rule R224). -/
def execRes6C (s : State) : Result := .next (bitRes 6 (.reg .c) s)

/-- `RES 6,D` (rule R224). -/
def execRes6D (s : State) : Result := .next (bitRes 6 (.reg .d) s)

/-- `RES 6,E` (rule R224). -/
def execRes6E (s : State) : Result := .next (bitRes 6 (.reg .e) s)

/-- `RES 6,H` (rule R224). -/
def execRes6H (s : State) : Result := .next (bitRes 6 (.reg .h) s)

/-- `RES 6,L` (rule R224). -/
def execRes6L (s : State) : Result := .next (bitRes 6 (.reg .l) s)

/-- `RES 6,(HL)` (rule R224). -/
def execRes6AtHl (s : State) : Result := .next (bitRes 6 .atHl s)

/-- `RES 6,A` (rule R224). -/
def execRes6A (s : State) : Result := .next (bitRes 6 (.reg .a) s)

/-- `RES 7,B` (rule R224). -/
def execRes7B (s : State) : Result := .next (bitRes 7 (.reg .b) s)

/-- `RES 7,C` (rule R224). -/
def execRes7C (s : State) : Result := .next (bitRes 7 (.reg .c) s)

/-- `RES 7,D` (rule R224). -/
def execRes7D (s : State) : Result := .next (bitRes 7 (.reg .d) s)

/-- `RES 7,E` (rule R224). -/
def execRes7E (s : State) : Result := .next (bitRes 7 (.reg .e) s)

/-- `RES 7,H` (rule R224). -/
def execRes7H (s : State) : Result := .next (bitRes 7 (.reg .h) s)

/-- `RES 7,L` (rule R224). -/
def execRes7L (s : State) : Result := .next (bitRes 7 (.reg .l) s)

/-- `RES 7,(HL)` (rule R224). -/
def execRes7AtHl (s : State) : Result := .next (bitRes 7 .atHl s)

/-- `RES 7,A` (rule R224). -/
def execRes7A (s : State) : Result := .next (bitRes 7 (.reg .a) s)

/-- `SET 0,B` (rule R225). -/
def execSet0B (s : State) : Result := .next (bitSet 0 (.reg .b) s)

/-- `SET 0,C` (rule R225). -/
def execSet0C (s : State) : Result := .next (bitSet 0 (.reg .c) s)

/-- `SET 0,D` (rule R225). -/
def execSet0D (s : State) : Result := .next (bitSet 0 (.reg .d) s)

/-- `SET 0,E` (rule R225). -/
def execSet0E (s : State) : Result := .next (bitSet 0 (.reg .e) s)

/-- `SET 0,H` (rule R225). -/
def execSet0H (s : State) : Result := .next (bitSet 0 (.reg .h) s)

/-- `SET 0,L` (rule R225). -/
def execSet0L (s : State) : Result := .next (bitSet 0 (.reg .l) s)

/-- `SET 0,(HL)` (rule R225). -/
def execSet0AtHl (s : State) : Result := .next (bitSet 0 .atHl s)

/-- `SET 0,A` (rule R225). -/
def execSet0A (s : State) : Result := .next (bitSet 0 (.reg .a) s)

/-- `SET 1,B` (rule R225). -/
def execSet1B (s : State) : Result := .next (bitSet 1 (.reg .b) s)

/-- `SET 1,C` (rule R225). -/
def execSet1C (s : State) : Result := .next (bitSet 1 (.reg .c) s)

/-- `SET 1,D` (rule R225). -/
def execSet1D (s : State) : Result := .next (bitSet 1 (.reg .d) s)

/-- `SET 1,E` (rule R225). -/
def execSet1E (s : State) : Result := .next (bitSet 1 (.reg .e) s)

/-- `SET 1,H` (rule R225). -/
def execSet1H (s : State) : Result := .next (bitSet 1 (.reg .h) s)

/-- `SET 1,L` (rule R225). -/
def execSet1L (s : State) : Result := .next (bitSet 1 (.reg .l) s)

/-- `SET 1,(HL)` (rule R225). -/
def execSet1AtHl (s : State) : Result := .next (bitSet 1 .atHl s)

/-- `SET 1,A` (rule R225). -/
def execSet1A (s : State) : Result := .next (bitSet 1 (.reg .a) s)

/-- `SET 2,B` (rule R225). -/
def execSet2B (s : State) : Result := .next (bitSet 2 (.reg .b) s)

/-- `SET 2,C` (rule R225). -/
def execSet2C (s : State) : Result := .next (bitSet 2 (.reg .c) s)

/-- `SET 2,D` (rule R225). -/
def execSet2D (s : State) : Result := .next (bitSet 2 (.reg .d) s)

/-- `SET 2,E` (rule R225). -/
def execSet2E (s : State) : Result := .next (bitSet 2 (.reg .e) s)

/-- `SET 2,H` (rule R225). -/
def execSet2H (s : State) : Result := .next (bitSet 2 (.reg .h) s)

/-- `SET 2,L` (rule R225). -/
def execSet2L (s : State) : Result := .next (bitSet 2 (.reg .l) s)

/-- `SET 2,(HL)` (rule R225). -/
def execSet2AtHl (s : State) : Result := .next (bitSet 2 .atHl s)

/-- `SET 2,A` (rule R225). -/
def execSet2A (s : State) : Result := .next (bitSet 2 (.reg .a) s)

/-- `SET 3,B` (rule R225). -/
def execSet3B (s : State) : Result := .next (bitSet 3 (.reg .b) s)

/-- `SET 3,C` (rule R225). -/
def execSet3C (s : State) : Result := .next (bitSet 3 (.reg .c) s)

/-- `SET 3,D` (rule R225). -/
def execSet3D (s : State) : Result := .next (bitSet 3 (.reg .d) s)

/-- `SET 3,E` (rule R225). -/
def execSet3E (s : State) : Result := .next (bitSet 3 (.reg .e) s)

/-- `SET 3,H` (rule R225). -/
def execSet3H (s : State) : Result := .next (bitSet 3 (.reg .h) s)

/-- `SET 3,L` (rule R225). -/
def execSet3L (s : State) : Result := .next (bitSet 3 (.reg .l) s)

/-- `SET 3,(HL)` (rule R225). -/
def execSet3AtHl (s : State) : Result := .next (bitSet 3 .atHl s)

/-- `SET 3,A` (rule R225). -/
def execSet3A (s : State) : Result := .next (bitSet 3 (.reg .a) s)

/-- `SET 4,B` (rule R225). -/
def execSet4B (s : State) : Result := .next (bitSet 4 (.reg .b) s)

/-- `SET 4,C` (rule R225). -/
def execSet4C (s : State) : Result := .next (bitSet 4 (.reg .c) s)

/-- `SET 4,D` (rule R225). -/
def execSet4D (s : State) : Result := .next (bitSet 4 (.reg .d) s)

/-- `SET 4,E` (rule R225). -/
def execSet4E (s : State) : Result := .next (bitSet 4 (.reg .e) s)

/-- `SET 4,H` (rule R225). -/
def execSet4H (s : State) : Result := .next (bitSet 4 (.reg .h) s)

/-- `SET 4,L` (rule R225). -/
def execSet4L (s : State) : Result := .next (bitSet 4 (.reg .l) s)

/-- `SET 4,(HL)` (rule R225). -/
def execSet4AtHl (s : State) : Result := .next (bitSet 4 .atHl s)

/-- `SET 4,A` (rule R225). -/
def execSet4A (s : State) : Result := .next (bitSet 4 (.reg .a) s)

/-- `SET 5,B` (rule R225). -/
def execSet5B (s : State) : Result := .next (bitSet 5 (.reg .b) s)

/-- `SET 5,C` (rule R225). -/
def execSet5C (s : State) : Result := .next (bitSet 5 (.reg .c) s)

/-- `SET 5,D` (rule R225). -/
def execSet5D (s : State) : Result := .next (bitSet 5 (.reg .d) s)

/-- `SET 5,E` (rule R225). -/
def execSet5E (s : State) : Result := .next (bitSet 5 (.reg .e) s)

/-- `SET 5,H` (rule R225). -/
def execSet5H (s : State) : Result := .next (bitSet 5 (.reg .h) s)

/-- `SET 5,L` (rule R225). -/
def execSet5L (s : State) : Result := .next (bitSet 5 (.reg .l) s)

/-- `SET 5,(HL)` (rule R225). -/
def execSet5AtHl (s : State) : Result := .next (bitSet 5 .atHl s)

/-- `SET 5,A` (rule R225). -/
def execSet5A (s : State) : Result := .next (bitSet 5 (.reg .a) s)

/-- `SET 6,B` (rule R225). -/
def execSet6B (s : State) : Result := .next (bitSet 6 (.reg .b) s)

/-- `SET 6,C` (rule R225). -/
def execSet6C (s : State) : Result := .next (bitSet 6 (.reg .c) s)

/-- `SET 6,D` (rule R225). -/
def execSet6D (s : State) : Result := .next (bitSet 6 (.reg .d) s)

/-- `SET 6,E` (rule R225). -/
def execSet6E (s : State) : Result := .next (bitSet 6 (.reg .e) s)

/-- `SET 6,H` (rule R225). -/
def execSet6H (s : State) : Result := .next (bitSet 6 (.reg .h) s)

/-- `SET 6,L` (rule R225). -/
def execSet6L (s : State) : Result := .next (bitSet 6 (.reg .l) s)

/-- `SET 6,(HL)` (rule R225). -/
def execSet6AtHl (s : State) : Result := .next (bitSet 6 .atHl s)

/-- `SET 6,A` (rule R225). -/
def execSet6A (s : State) : Result := .next (bitSet 6 (.reg .a) s)

/-- `SET 7,B` (rule R225). -/
def execSet7B (s : State) : Result := .next (bitSet 7 (.reg .b) s)

/-- `SET 7,C` (rule R225). -/
def execSet7C (s : State) : Result := .next (bitSet 7 (.reg .c) s)

/-- `SET 7,D` (rule R225). -/
def execSet7D (s : State) : Result := .next (bitSet 7 (.reg .d) s)

/-- `SET 7,E` (rule R225). -/
def execSet7E (s : State) : Result := .next (bitSet 7 (.reg .e) s)

/-- `SET 7,H` (rule R225). -/
def execSet7H (s : State) : Result := .next (bitSet 7 (.reg .h) s)

/-- `SET 7,L` (rule R225). -/
def execSet7L (s : State) : Result := .next (bitSet 7 (.reg .l) s)

/-- `SET 7,(HL)` (rule R225). -/
def execSet7AtHl (s : State) : Result := .next (bitSet 7 .atHl s)

/-- `SET 7,A` (rule R225). -/
def execSet7A (s : State) : Result := .next (bitSet 7 (.reg .a) s)

end Sys2Proof.Machine
end

