-- ==== Sys2Proof/Machine/Control.lean ====
section
/-! DEFINITION. Jumps, calls, returns and restarts (spec/45_control.md). PC is the post-operand PC throughout: `step` has moved it
past the whole instruction (rule R26). None of them writes a flag. One operation for each rule, and then one definition for each row of the opcode table. -/

namespace Sys2Proof.Machine

/-- `JP nn` (rule R241). -/
def jp (nn : Word) (s : State) : State := (s.setPc nn).took 4

/-- `JP cc,nn` (rule R242). -/
def jpCond (cc : Cond) (nn : Word) (s : State) : State := if s.cond cc then (s.setPc nn).took 4 else s.took 3

/-- `JP HL` (rule R243). -/
def jpHl (s : State) : State := (s.setPc s.hl).took 1

/-- `JR d` (rule R244). -/
def jr (d : Byte) (s : State) : State := (s.jumpBy d).took 3

/-- `JR cc,d` (rule R245). -/
def jrCond (cc : Cond) (d : Byte) (s : State) : State := if s.cond cc then (s.jumpBy d).took 3 else s.took 2

/-- `CALL nn` (rule R246). -/
def call (nn : Word) (s : State) : State := (s.callTo nn).took 6

/-- `CALL cc,nn` (rule R247). -/
def callCond (cc : Cond) (nn : Word) (s : State) : State := if s.cond cc then (s.callTo nn).took 6 else s.took 3

/-- `RET` (rule R248). -/
def ret (s : State) : State := s.popPc.took 4

/-- `RET cc` (rule R249). -/
def retCond (cc : Cond) (s : State) : State := if s.cond cc then s.popPc.took 5 else s.took 2

/-- The eight RST targets, `8 * t` (rule R250). -/
def rstTarget (t : Fin 8) : Word := BitVec.ofNat 16 (8 * t.val)

/-- `RST t` (rule R250). -/
def rst (t : Fin 8) (s : State) : State := (s.callTo (rstTarget t)).took 4

/-- `RETI` (rules R251 and R406): RET, and IME stays as it was. -/
def reti (s : State) : State := s.popPc.took 4

/-- `JR d` (rule R244). -/
def execJrD8 (d : Byte) (s : State) : Result := .next (jr d s)

/-- `JR NZ,d` (rule R245). -/
def execJrNzD8 (d : Byte) (s : State) : Result := .next (jrCond .nz d s)

/-- `JR Z,d` (rule R245). -/
def execJrZD8 (d : Byte) (s : State) : Result := .next (jrCond .z d s)

/-- `JR NC,d` (rule R245). -/
def execJrNcD8 (d : Byte) (s : State) : Result := .next (jrCond .nc d s)

/-- `JR C,d` (rule R245). -/
def execJrCD8 (d : Byte) (s : State) : Result := .next (jrCond .c d s)

/-- `RET NZ` (rule R249). -/
def execRetNz (s : State) : Result := .next (retCond .nz s)

/-- `JP NZ,nn` (rule R242). -/
def execJpNzNn (nn : Word) (s : State) : Result := .next (jpCond .nz nn s)

/-- `JP nn` (rule R241). -/
def execJpNn (nn : Word) (s : State) : Result := .next (jp nn s)

/-- `CALL NZ,nn` (rule R247). -/
def execCallNzNn (nn : Word) (s : State) : Result := .next (callCond .nz nn s)

/-- `RST 0x00` (rule R250). -/
def execRst00 (s : State) : Result := .next (rst 0 s)

/-- `RET Z` (rule R249). -/
def execRetZ (s : State) : Result := .next (retCond .z s)

/-- `RET` (rule R248). -/
def execRet (s : State) : Result := .next (ret s)

/-- `JP Z,nn` (rule R242). -/
def execJpZNn (nn : Word) (s : State) : Result := .next (jpCond .z nn s)

/-- `CALL Z,nn` (rule R247). -/
def execCallZNn (nn : Word) (s : State) : Result := .next (callCond .z nn s)

/-- `CALL nn` (rule R246). -/
def execCallNn (nn : Word) (s : State) : Result := .next (call nn s)

/-- `RST 0x08` (rule R250). -/
def execRst08 (s : State) : Result := .next (rst 1 s)

/-- `RET NC` (rule R249). -/
def execRetNc (s : State) : Result := .next (retCond .nc s)

/-- `JP NC,nn` (rule R242). -/
def execJpNcNn (nn : Word) (s : State) : Result := .next (jpCond .nc nn s)

/-- `CALL NC,nn` (rule R247). -/
def execCallNcNn (nn : Word) (s : State) : Result := .next (callCond .nc nn s)

/-- `RST 0x10` (rule R250). -/
def execRst10 (s : State) : Result := .next (rst 2 s)

/-- `RET C` (rule R249). -/
def execRetC (s : State) : Result := .next (retCond .c s)

/-- `RETI` (rule R251). -/
def execReti (s : State) : Result := .next (reti s)

/-- `JP C,nn` (rule R242). -/
def execJpCNn (nn : Word) (s : State) : Result := .next (jpCond .c nn s)

/-- `CALL C,nn` (rule R247). -/
def execCallCNn (nn : Word) (s : State) : Result := .next (callCond .c nn s)

/-- `RST 0x18` (rule R250). -/
def execRst18 (s : State) : Result := .next (rst 3 s)

/-- `RST 0x20` (rule R250). -/
def execRst20 (s : State) : Result := .next (rst 4 s)

/-- `JP HL` (rule R243). -/
def execJpHl (s : State) : Result := .next (jpHl s)

/-- `RST 0x28` (rule R250). -/
def execRst28 (s : State) : Result := .next (rst 5 s)

/-- `RST 0x30` (rule R250). -/
def execRst30 (s : State) : Result := .next (rst 6 s)

/-- `RST 0x38` (rule R250). -/
def execRst38 (s : State) : Result := .next (rst 7 s)

end Sys2Proof.Machine
end

