-- ==== Sys2Proof/Machine/Loads16.lean ====
section
/-! DEFINITION. The 16-bit loads and the stack (spec/41_loads16_stack.md). Only `LD HL,SP+d` and `POP AF` write flags. One operation for each rule, and then one definition for each row of the opcode table. -/

namespace Sys2Proof.Machine

/-- `LD rp,nn` (rule R160). -/
def ldPairImm (rp : Pair) (nn : Word) (s : State) : State := (s.setPair rp nn).took 3

/-- `LD (nn),SP` (rule R161). -/
def ldAtNnSp (nn : Word) (s : State) : State := (s.busWriteWord nn s.sp).took 5

/-- `LD SP,HL` (rule R162). -/
def ldSpHl (s : State) : State := (s.setSp s.hl).took 2

/-- `LD HL,SP+d` (rule R163). -/
def ldHlSpDisp (d : Byte) (s : State) : State :=
  let sum := spAdd s.sp d
  ((s.setHl sum.res).setFlags false false sum.h sum.c).took 3

/-- `PUSH rp2` (rule R164). -/
def push (q : StackPair) (s : State) : State := (s.pushWord (s.stackPair q)).took 4

/-- `POP rp2` (rule R165). -/
def pop (q : StackPair) (s : State) : State := ((s.setStackPair q s.stackTop).setSp (s.sp + 2)).took 3

/-- `LD BC,nn` (rule R160). -/
def execLdBcNn (nn : Word) (s : State) : Result := .next (ldPairImm .bc nn s)

/-- `LD (nn),SP` (rule R161). -/
def execLdAtNnSp (nn : Word) (s : State) : Result := .next (ldAtNnSp nn s)

/-- `LD DE,nn` (rule R160). -/
def execLdDeNn (nn : Word) (s : State) : Result := .next (ldPairImm .de nn s)

/-- `LD HL,nn` (rule R160). -/
def execLdHlNn (nn : Word) (s : State) : Result := .next (ldPairImm .hl nn s)

/-- `LD SP,nn` (rule R160). -/
def execLdSpNn (nn : Word) (s : State) : Result := .next (ldPairImm .sp nn s)

/-- `POP BC` (rule R165). -/
def execPopBc (s : State) : Result := .next (pop .bc s)

/-- `PUSH BC` (rule R164). -/
def execPushBc (s : State) : Result := .next (push .bc s)

/-- `POP DE` (rule R165). -/
def execPopDe (s : State) : Result := .next (pop .de s)

/-- `PUSH DE` (rule R164). -/
def execPushDe (s : State) : Result := .next (push .de s)

/-- `POP HL` (rule R165). -/
def execPopHl (s : State) : Result := .next (pop .hl s)

/-- `PUSH HL` (rule R164). -/
def execPushHl (s : State) : Result := .next (push .hl s)

/-- `POP AF` (rule R165). -/
def execPopAf (s : State) : Result := .next (pop .af s)

/-- `PUSH AF` (rule R164). -/
def execPushAf (s : State) : Result := .next (push .af s)

/-- `LD HL,SP+d` (rule R163). -/
def execLdHlSpD (d : Byte) (s : State) : Result := .next (ldHlSpDisp d s)

/-- `LD SP,HL` (rule R162). -/
def execLdSpHl (s : State) : Result := .next (ldSpHl s)

end Sys2Proof.Machine
end

