-- ==== Sys2Proof/Machine/Loads8.lean ====
section
/-! DEFINITION. The 8-bit loads (spec/40_loads8.md). No load writes a flag (rule R140). One operation for each rule, and then one definition for each row of the opcode table. -/

namespace Sys2Proof.Machine

/-- `LD r,r'` (rule R141). -/
def ldRegReg (dst src : Reg8) (s : State) : State := (s.setReg8 dst (s.reg8 src)).took 1

/-- `LD r,n` (rule R142). -/
def ldRegImm (dst : Reg8) (n : Byte) (s : State) : State := (s.setReg8 dst n).took 2

/-- `LD r,(HL)` (rule R143). -/
def ldRegAtHl (dst : Reg8) (s : State) : State := (s.setReg8 dst s.atHl).took 2

/-- `LD (HL),r` (rule R144). -/
def ldAtHlReg (src : Reg8) (s : State) : State := (s.setAtHl (s.reg8 src)).took 2

/-- `LD (HL),n` (rule R145). -/
def ldAtHlImm (n : Byte) (s : State) : State := (s.setAtHl n).took 3

/-- `A <- MemRead(addr, 1); m <- k`, shared by the loads of A (rules R146, R147, R150, R152 and R154). -/
def loadA (addr : Word) (k : Nat) (s : State) : State := (s.setA (s.busRead addr)).took k

/-- `MemWrite(addr, 1, A); m <- k`, shared by the stores of A (rules R148, R149, R151, R153 and R155). -/
def storeA (addr : Word) (k : Nat) (s : State) : State := (s.busWrite addr s.a).took k

/-- `LD A,(BC)` (rule R146). -/
def ldAAtBc (s : State) : State := loadA s.bc 2 s

/-- `LD A,(DE)` (rule R147). -/
def ldAAtDe (s : State) : State := loadA s.de 2 s

/-- `LD (BC),A` (rule R148). -/
def ldAtBcA (s : State) : State := storeA s.bc 2 s

/-- `LD (DE),A` (rule R149). -/
def ldAtDeA (s : State) : State := storeA s.de 2 s

/-- `LD A,(nn)` (rule R150). -/
def ldAAtNn (nn : Word) (s : State) : State := loadA nn 4 s

/-- `LD (nn),A` (rule R151). -/
def ldAtNnA (nn : Word) (s : State) : State := storeA nn 4 s

/-- `LDH A,(n)` (rule R152). -/
def ldhAAtN (n : Byte) (s : State) : State := loadA (pageAddr n) 3 s

/-- `LDH (n),A` (rule R153). -/
def ldhAtNA (n : Byte) (s : State) : State := storeA (pageAddr n) 3 s

/-- `LDH A,(C)` (rule R154). -/
def ldhAAtC (s : State) : State := loadA (pageAddr s.c) 2 s

/-- `LDH (C),A` (rule R155). -/
def ldhAtCA (s : State) : State := storeA (pageAddr s.c) 2 s

/-- `LD (HL+),A`: the store through the old HL, then the increment (rule R156). -/
def ldAtHlIncA (s : State) : State := ((s.setAtHl s.a).setHl (s.hl + 1)).took 2

/-- `LD A,(HL+)` (rule R157). -/
def ldAAtHlInc (s : State) : State := ((s.setA s.atHl).setHl (s.hl + 1)).took 2

/-- `LD (HL-),A` (rule R158). -/
def ldAtHlDecA (s : State) : State := ((s.setAtHl s.a).setHl (s.hl - 1)).took 2

/-- `LD A,(HL-)` (rule R159). -/
def ldAAtHlDec (s : State) : State := ((s.setA s.atHl).setHl (s.hl - 1)).took 2

/-- `LD (BC),A` (rule R148). -/
def execLdAtBcA (s : State) : Result := .next (ldAtBcA s)

/-- `LD B,n` (rule R142). -/
def execLdBN (n : Byte) (s : State) : Result := .next (ldRegImm .b n s)

/-- `LD A,(BC)` (rule R146). -/
def execLdAAtBc (s : State) : Result := .next (ldAAtBc s)

/-- `LD C,n` (rule R142). -/
def execLdCN (n : Byte) (s : State) : Result := .next (ldRegImm .c n s)

/-- `LD (DE),A` (rule R149). -/
def execLdAtDeA (s : State) : Result := .next (ldAtDeA s)

/-- `LD D,n` (rule R142). -/
def execLdDN (n : Byte) (s : State) : Result := .next (ldRegImm .d n s)

/-- `LD A,(DE)` (rule R147). -/
def execLdAAtDe (s : State) : Result := .next (ldAAtDe s)

/-- `LD E,n` (rule R142). -/
def execLdEN (n : Byte) (s : State) : Result := .next (ldRegImm .e n s)

/-- `LD (HL+),A` (rule R156). -/
def execLdAtHlIncA (s : State) : Result := .next (ldAtHlIncA s)

/-- `LD H,n` (rule R142). -/
def execLdHN (n : Byte) (s : State) : Result := .next (ldRegImm .h n s)

/-- `LD A,(HL+)` (rule R157). -/
def execLdAAtHlInc (s : State) : Result := .next (ldAAtHlInc s)

/-- `LD L,n` (rule R142). -/
def execLdLN (n : Byte) (s : State) : Result := .next (ldRegImm .l n s)

/-- `LD (HL-),A` (rule R158). -/
def execLdAtHlDecA (s : State) : Result := .next (ldAtHlDecA s)

/-- `LD (HL),n` (rule R145). -/
def execLdAtHlN (n : Byte) (s : State) : Result := .next (ldAtHlImm n s)

/-- `LD A,(HL-)` (rule R159). -/
def execLdAAtHlDec (s : State) : Result := .next (ldAAtHlDec s)

/-- `LD A,n` (rule R142). -/
def execLdAN (n : Byte) (s : State) : Result := .next (ldRegImm .a n s)

/-- `LD B,B` (rule R141). -/
def execLdBB (s : State) : Result := .next (ldRegReg .b .b s)

/-- `LD B,C` (rule R141). -/
def execLdBC (s : State) : Result := .next (ldRegReg .b .c s)

/-- `LD B,D` (rule R141). -/
def execLdBD (s : State) : Result := .next (ldRegReg .b .d s)

/-- `LD B,E` (rule R141). -/
def execLdBE (s : State) : Result := .next (ldRegReg .b .e s)

/-- `LD B,H` (rule R141). -/
def execLdBH (s : State) : Result := .next (ldRegReg .b .h s)

/-- `LD B,L` (rule R141). -/
def execLdBL (s : State) : Result := .next (ldRegReg .b .l s)

/-- `LD B,(HL)` (rule R143). -/
def execLdBAtHl (s : State) : Result := .next (ldRegAtHl .b s)

/-- `LD B,A` (rule R141). -/
def execLdBA (s : State) : Result := .next (ldRegReg .b .a s)

/-- `LD C,B` (rule R141). -/
def execLdCB (s : State) : Result := .next (ldRegReg .c .b s)

/-- `LD C,C` (rule R141). -/
def execLdCC (s : State) : Result := .next (ldRegReg .c .c s)

/-- `LD C,D` (rule R141). -/
def execLdCD (s : State) : Result := .next (ldRegReg .c .d s)

/-- `LD C,E` (rule R141). -/
def execLdCE (s : State) : Result := .next (ldRegReg .c .e s)

/-- `LD C,H` (rule R141). -/
def execLdCH (s : State) : Result := .next (ldRegReg .c .h s)

/-- `LD C,L` (rule R141). -/
def execLdCL (s : State) : Result := .next (ldRegReg .c .l s)

/-- `LD C,(HL)` (rule R143). -/
def execLdCAtHl (s : State) : Result := .next (ldRegAtHl .c s)

/-- `LD C,A` (rule R141). -/
def execLdCA (s : State) : Result := .next (ldRegReg .c .a s)

/-- `LD D,B` (rule R141). -/
def execLdDB (s : State) : Result := .next (ldRegReg .d .b s)

/-- `LD D,C` (rule R141). -/
def execLdDC (s : State) : Result := .next (ldRegReg .d .c s)

/-- `LD D,D` (rule R141). -/
def execLdDD (s : State) : Result := .next (ldRegReg .d .d s)

/-- `LD D,E` (rule R141). -/
def execLdDE (s : State) : Result := .next (ldRegReg .d .e s)

/-- `LD D,H` (rule R141). -/
def execLdDH (s : State) : Result := .next (ldRegReg .d .h s)

/-- `LD D,L` (rule R141). -/
def execLdDL (s : State) : Result := .next (ldRegReg .d .l s)

/-- `LD D,(HL)` (rule R143). -/
def execLdDAtHl (s : State) : Result := .next (ldRegAtHl .d s)

/-- `LD D,A` (rule R141). -/
def execLdDA (s : State) : Result := .next (ldRegReg .d .a s)

/-- `LD E,B` (rule R141). -/
def execLdEB (s : State) : Result := .next (ldRegReg .e .b s)

/-- `LD E,C` (rule R141). -/
def execLdEC (s : State) : Result := .next (ldRegReg .e .c s)

/-- `LD E,D` (rule R141). -/
def execLdED (s : State) : Result := .next (ldRegReg .e .d s)

/-- `LD E,E` (rule R141). -/
def execLdEE (s : State) : Result := .next (ldRegReg .e .e s)

/-- `LD E,H` (rule R141). -/
def execLdEH (s : State) : Result := .next (ldRegReg .e .h s)

/-- `LD E,L` (rule R141). -/
def execLdEL (s : State) : Result := .next (ldRegReg .e .l s)

/-- `LD E,(HL)` (rule R143). -/
def execLdEAtHl (s : State) : Result := .next (ldRegAtHl .e s)

/-- `LD E,A` (rule R141). -/
def execLdEA (s : State) : Result := .next (ldRegReg .e .a s)

/-- `LD H,B` (rule R141). -/
def execLdHB (s : State) : Result := .next (ldRegReg .h .b s)

/-- `LD H,C` (rule R141). -/
def execLdHC (s : State) : Result := .next (ldRegReg .h .c s)

/-- `LD H,D` (rule R141). -/
def execLdHD (s : State) : Result := .next (ldRegReg .h .d s)

/-- `LD H,E` (rule R141). -/
def execLdHE (s : State) : Result := .next (ldRegReg .h .e s)

/-- `LD H,H` (rule R141). -/
def execLdHH (s : State) : Result := .next (ldRegReg .h .h s)

/-- `LD H,L` (rule R141). -/
def execLdHL (s : State) : Result := .next (ldRegReg .h .l s)

/-- `LD H,(HL)` (rule R143). -/
def execLdHAtHl (s : State) : Result := .next (ldRegAtHl .h s)

/-- `LD H,A` (rule R141). -/
def execLdHA (s : State) : Result := .next (ldRegReg .h .a s)

/-- `LD L,B` (rule R141). -/
def execLdLB (s : State) : Result := .next (ldRegReg .l .b s)

/-- `LD L,C` (rule R141). -/
def execLdLC (s : State) : Result := .next (ldRegReg .l .c s)

/-- `LD L,D` (rule R141). -/
def execLdLD (s : State) : Result := .next (ldRegReg .l .d s)

/-- `LD L,E` (rule R141). -/
def execLdLE (s : State) : Result := .next (ldRegReg .l .e s)

/-- `LD L,H` (rule R141). -/
def execLdLH (s : State) : Result := .next (ldRegReg .l .h s)

/-- `LD L,L` (rule R141). -/
def execLdLL (s : State) : Result := .next (ldRegReg .l .l s)

/-- `LD L,(HL)` (rule R143). -/
def execLdLAtHl (s : State) : Result := .next (ldRegAtHl .l s)

/-- `LD L,A` (rule R141). -/
def execLdLA (s : State) : Result := .next (ldRegReg .l .a s)

/-- `LD (HL),B` (rule R144). -/
def execLdAtHlB (s : State) : Result := .next (ldAtHlReg .b s)

/-- `LD (HL),C` (rule R144). -/
def execLdAtHlC (s : State) : Result := .next (ldAtHlReg .c s)

/-- `LD (HL),D` (rule R144). -/
def execLdAtHlD (s : State) : Result := .next (ldAtHlReg .d s)

/-- `LD (HL),E` (rule R144). -/
def execLdAtHlE (s : State) : Result := .next (ldAtHlReg .e s)

/-- `LD (HL),H` (rule R144). -/
def execLdAtHlH (s : State) : Result := .next (ldAtHlReg .h s)

/-- `LD (HL),L` (rule R144). -/
def execLdAtHlL (s : State) : Result := .next (ldAtHlReg .l s)

/-- `LD (HL),A` (rule R144). -/
def execLdAtHlA (s : State) : Result := .next (ldAtHlReg .a s)

/-- `LD A,B` (rule R141). -/
def execLdAB (s : State) : Result := .next (ldRegReg .a .b s)

/-- `LD A,C` (rule R141). -/
def execLdAC (s : State) : Result := .next (ldRegReg .a .c s)

/-- `LD A,D` (rule R141). -/
def execLdAD (s : State) : Result := .next (ldRegReg .a .d s)

/-- `LD A,E` (rule R141). -/
def execLdAE (s : State) : Result := .next (ldRegReg .a .e s)

/-- `LD A,H` (rule R141). -/
def execLdAH (s : State) : Result := .next (ldRegReg .a .h s)

/-- `LD A,L` (rule R141). -/
def execLdAL (s : State) : Result := .next (ldRegReg .a .l s)

/-- `LD A,(HL)` (rule R143). -/
def execLdAAtHl (s : State) : Result := .next (ldRegAtHl .a s)

/-- `LD A,A` (rule R141). -/
def execLdAA (s : State) : Result := .next (ldRegReg .a .a s)

/-- `LDH (n),A` (rule R153). -/
def execLdhAtNA (n : Byte) (s : State) : Result := .next (ldhAtNA n s)

/-- `LDH (C),A` (rule R155). -/
def execLdhAtCA (s : State) : Result := .next (ldhAtCA s)

/-- `LD (nn),A` (rule R151). -/
def execLdAtNnA (nn : Word) (s : State) : Result := .next (ldAtNnA nn s)

/-- `LDH A,(n)` (rule R152). -/
def execLdhAAtN (n : Byte) (s : State) : Result := .next (ldhAAtN n s)

/-- `LDH A,(C)` (rule R154). -/
def execLdhAAtC (s : State) : Result := .next (ldhAAtC s)

/-- `LD A,(nn)` (rule R150). -/
def execLdAAtNn (nn : Word) (s : State) : Result := .next (ldAAtNn nn s)

end Sys2Proof.Machine
end

