-- ==== Sys2Proof/Machine/Misc.lean ====
section
/-! DEFINITION. NOP, HALT, STOP, DI, EI and the eleven unmapped opcodes (spec/46_misc.md). One operation for each rule, and then one definition for each row of the opcode table. -/

namespace Sys2Proof.Machine

/-- `NOP` (rule R260). -/
def nop (s : State) : State := s.took 1

/-- `HALT` (rule R261): the latch is set and execution goes on. -/
def halt (s : State) : State := { s with halted := true }.took 1

/-- `STOP` (rule R262): the latch is set and execution goes on; one byte long. -/
def stop (s : State) : State := { s with stopped := true }.took 1

/-- `DI` (rule R263). -/
def disableInterrupts (s : State) : State := { s with ime := false }.took 1

/-- `EI` (rule R264): at once. -/
def enableInterrupts (s : State) : State := { s with ime := true }.took 1

/-- An unmapped opcode executes as NOP (rule R265). -/
def unmappedNop (s : State) : State := s.took 1

/-- `NOP` (rule R260). -/
def execNop (s : State) : Result := .next (nop s)

/-- `STOP` (rule R262). -/
def execStop (s : State) : Result := .next (stop s)

/-- `HALT` (rule R261). -/
def execHalt (s : State) : Result := .next (halt s)

/-- `unmapped 0xD3` (rule R265). -/
def execUnmappedD3 (s : State) : Result := .next (unmappedNop s)

/-- `unmapped 0xDB` (rule R265). -/
def execUnmappedDB (s : State) : Result := .next (unmappedNop s)

/-- `unmapped 0xDD` (rule R265). -/
def execUnmappedDD (s : State) : Result := .next (unmappedNop s)

/-- `unmapped 0xE3` (rule R265). -/
def execUnmappedE3 (s : State) : Result := .next (unmappedNop s)

/-- `unmapped 0xE4` (rule R265). -/
def execUnmappedE4 (s : State) : Result := .next (unmappedNop s)

/-- `unmapped 0xEB` (rule R265). -/
def execUnmappedEB (s : State) : Result := .next (unmappedNop s)

/-- `unmapped 0xEC` (rule R265). -/
def execUnmappedEC (s : State) : Result := .next (unmappedNop s)

/-- `unmapped 0xED` (rule R265). -/
def execUnmappedED (s : State) : Result := .next (unmappedNop s)

/-- `DI` (rule R263). -/
def execDi (s : State) : Result := .next (disableInterrupts s)

/-- `unmapped 0xF4` (rule R265). -/
def execUnmappedF4 (s : State) : Result := .next (unmappedNop s)

/-- `EI` (rule R264). -/
def execEi (s : State) : Result := .next (enableInterrupts s)

/-- `unmapped 0xFC` (rule R265). -/
def execUnmappedFC (s : State) : Result := .next (unmappedNop s)

/-- `unmapped 0xFD` (rule R265). -/
def execUnmappedFD (s : State) : Result := .next (unmappedNop s)

end Sys2Proof.Machine
end

