-- ==== Sys2Proof/Machine/Rotates.lean ====
section
/-! DEFINITION. Rotates and shifts (spec/44_rotates_bits.md rules R210 to R222). One operation for each rule, and then one definition for each row of the opcode table. -/

namespace Sys2Proof.Machine

/-- An accumulator rotate of the primary table: Z is cleared whatever the result (rules R210 to R213). -/
def rotateA (out : RotOut) (s : State) : State := ((s.setA out.res).setFlags false false false out.c).took 1

/-- `RLCA` (rule R210). -/
def rlca (s : State) : State := rotateA (rlc8 s.a) s

/-- `RRCA` (rule R211). -/
def rrca (s : State) : State := rotateA (rrc8 s.a) s

/-- `RLA` (rule R212). -/
def rla (s : State) : State := rotateA (rl8 s.a s.flagC) s

/-- `RRA` (rule R213). -/
def rra (s : State) : State := rotateA (rr8 s.a s.flagC) s

/-- A prefixed rotate or shift of the operand `o`: Z from the result, N and Hf cleared, Cf the bit shifted out, the
result written back (rules R214 to R222). -/
def rotateOperand (op : RotOp) (o : Operand8) (s : State) : State :=
  let out := rotate op (s.operand8 o) s.flagC
  ((s.setOperand8 o out.res).setFlags (out.res == 0) false false out.c).took (modifyCost o)

/-- `RLCA` (rule R210). -/
def execRlca (s : State) : Result := .next (rlca s)

/-- `RRCA` (rule R211). -/
def execRrca (s : State) : Result := .next (rrca s)

/-- `RLA` (rule R212). -/
def execRla (s : State) : Result := .next (rla s)

/-- `RRA` (rule R213). -/
def execRra (s : State) : Result := .next (rra s)

/-- `RLC B` (rule R215). -/
def execRlcB (s : State) : Result := .next (rotateOperand .rlc (.reg .b) s)

/-- `RLC C` (rule R215). -/
def execRlcC (s : State) : Result := .next (rotateOperand .rlc (.reg .c) s)

/-- `RLC D` (rule R215). -/
def execRlcD (s : State) : Result := .next (rotateOperand .rlc (.reg .d) s)

/-- `RLC E` (rule R215). -/
def execRlcE (s : State) : Result := .next (rotateOperand .rlc (.reg .e) s)

/-- `RLC H` (rule R215). -/
def execRlcH (s : State) : Result := .next (rotateOperand .rlc (.reg .h) s)

/-- `RLC L` (rule R215). -/
def execRlcL (s : State) : Result := .next (rotateOperand .rlc (.reg .l) s)

/-- `RLC (HL)` (rule R215). -/
def execRlcAtHl (s : State) : Result := .next (rotateOperand .rlc .atHl s)

/-- `RLC A` (rule R215). -/
def execRlcA (s : State) : Result := .next (rotateOperand .rlc (.reg .a) s)

/-- `RRC B` (rule R216). -/
def execRrcB (s : State) : Result := .next (rotateOperand .rrc (.reg .b) s)

/-- `RRC C` (rule R216). -/
def execRrcC (s : State) : Result := .next (rotateOperand .rrc (.reg .c) s)

/-- `RRC D` (rule R216). -/
def execRrcD (s : State) : Result := .next (rotateOperand .rrc (.reg .d) s)

/-- `RRC E` (rule R216). -/
def execRrcE (s : State) : Result := .next (rotateOperand .rrc (.reg .e) s)

/-- `RRC H` (rule R216). -/
def execRrcH (s : State) : Result := .next (rotateOperand .rrc (.reg .h) s)

/-- `RRC L` (rule R216). -/
def execRrcL (s : State) : Result := .next (rotateOperand .rrc (.reg .l) s)

/-- `RRC (HL)` (rule R216). -/
def execRrcAtHl (s : State) : Result := .next (rotateOperand .rrc .atHl s)

/-- `RRC A` (rule R216). -/
def execRrcA (s : State) : Result := .next (rotateOperand .rrc (.reg .a) s)

/-- `RL B` (rule R217). -/
def execRlB (s : State) : Result := .next (rotateOperand .rl (.reg .b) s)

/-- `RL C` (rule R217). -/
def execRlC (s : State) : Result := .next (rotateOperand .rl (.reg .c) s)

/-- `RL D` (rule R217). -/
def execRlD (s : State) : Result := .next (rotateOperand .rl (.reg .d) s)

/-- `RL E` (rule R217). -/
def execRlE (s : State) : Result := .next (rotateOperand .rl (.reg .e) s)

/-- `RL H` (rule R217). -/
def execRlH (s : State) : Result := .next (rotateOperand .rl (.reg .h) s)

/-- `RL L` (rule R217). -/
def execRlL (s : State) : Result := .next (rotateOperand .rl (.reg .l) s)

/-- `RL (HL)` (rule R217). -/
def execRlAtHl (s : State) : Result := .next (rotateOperand .rl .atHl s)

/-- `RL A` (rule R217). -/
def execRlA (s : State) : Result := .next (rotateOperand .rl (.reg .a) s)

/-- `RR B` (rule R218). -/
def execRrB (s : State) : Result := .next (rotateOperand .rr (.reg .b) s)

/-- `RR C` (rule R218). -/
def execRrC (s : State) : Result := .next (rotateOperand .rr (.reg .c) s)

/-- `RR D` (rule R218). -/
def execRrD (s : State) : Result := .next (rotateOperand .rr (.reg .d) s)

/-- `RR E` (rule R218). -/
def execRrE (s : State) : Result := .next (rotateOperand .rr (.reg .e) s)

/-- `RR H` (rule R218). -/
def execRrH (s : State) : Result := .next (rotateOperand .rr (.reg .h) s)

/-- `RR L` (rule R218). -/
def execRrL (s : State) : Result := .next (rotateOperand .rr (.reg .l) s)

/-- `RR (HL)` (rule R218). -/
def execRrAtHl (s : State) : Result := .next (rotateOperand .rr .atHl s)

/-- `RR A` (rule R218). -/
def execRrA (s : State) : Result := .next (rotateOperand .rr (.reg .a) s)

/-- `SLA B` (rule R219). -/
def execSlaB (s : State) : Result := .next (rotateOperand .sla (.reg .b) s)

/-- `SLA C` (rule R219). -/
def execSlaC (s : State) : Result := .next (rotateOperand .sla (.reg .c) s)

/-- `SLA D` (rule R219). -/
def execSlaD (s : State) : Result := .next (rotateOperand .sla (.reg .d) s)

/-- `SLA E` (rule R219). -/
def execSlaE (s : State) : Result := .next (rotateOperand .sla (.reg .e) s)

/-- `SLA H` (rule R219). -/
def execSlaH (s : State) : Result := .next (rotateOperand .sla (.reg .h) s)

/-- `SLA L` (rule R219). -/
def execSlaL (s : State) : Result := .next (rotateOperand .sla (.reg .l) s)

/-- `SLA (HL)` (rule R219). -/
def execSlaAtHl (s : State) : Result := .next (rotateOperand .sla .atHl s)

/-- `SLA A` (rule R219). -/
def execSlaA (s : State) : Result := .next (rotateOperand .sla (.reg .a) s)

/-- `SRA B` (rule R220). -/
def execSraB (s : State) : Result := .next (rotateOperand .sra (.reg .b) s)

/-- `SRA C` (rule R220). -/
def execSraC (s : State) : Result := .next (rotateOperand .sra (.reg .c) s)

/-- `SRA D` (rule R220). -/
def execSraD (s : State) : Result := .next (rotateOperand .sra (.reg .d) s)

/-- `SRA E` (rule R220). -/
def execSraE (s : State) : Result := .next (rotateOperand .sra (.reg .e) s)

/-- `SRA H` (rule R220). -/
def execSraH (s : State) : Result := .next (rotateOperand .sra (.reg .h) s)

/-- `SRA L` (rule R220). -/
def execSraL (s : State) : Result := .next (rotateOperand .sra (.reg .l) s)

/-- `SRA (HL)` (rule R220). -/
def execSraAtHl (s : State) : Result := .next (rotateOperand .sra .atHl s)

/-- `SRA A` (rule R220). -/
def execSraA (s : State) : Result := .next (rotateOperand .sra (.reg .a) s)

/-- `SWAP B` (rule R221). -/
def execSwapB (s : State) : Result := .next (rotateOperand .swap (.reg .b) s)

/-- `SWAP C` (rule R221). -/
def execSwapC (s : State) : Result := .next (rotateOperand .swap (.reg .c) s)

/-- `SWAP D` (rule R221). -/
def execSwapD (s : State) : Result := .next (rotateOperand .swap (.reg .d) s)

/-- `SWAP E` (rule R221). -/
def execSwapE (s : State) : Result := .next (rotateOperand .swap (.reg .e) s)

/-- `SWAP H` (rule R221). -/
def execSwapH (s : State) : Result := .next (rotateOperand .swap (.reg .h) s)

/-- `SWAP L` (rule R221). -/
def execSwapL (s : State) : Result := .next (rotateOperand .swap (.reg .l) s)

/-- `SWAP (HL)` (rule R221). -/
def execSwapAtHl (s : State) : Result := .next (rotateOperand .swap .atHl s)

/-- `SWAP A` (rule R221). -/
def execSwapA (s : State) : Result := .next (rotateOperand .swap (.reg .a) s)

/-- `SRL B` (rule R222). -/
def execSrlB (s : State) : Result := .next (rotateOperand .srl (.reg .b) s)

/-- `SRL C` (rule R222). -/
def execSrlC (s : State) : Result := .next (rotateOperand .srl (.reg .c) s)

/-- `SRL D` (rule R222). -/
def execSrlD (s : State) : Result := .next (rotateOperand .srl (.reg .d) s)

/-- `SRL E` (rule R222). -/
def execSrlE (s : State) : Result := .next (rotateOperand .srl (.reg .e) s)

/-- `SRL H` (rule R222). -/
def execSrlH (s : State) : Result := .next (rotateOperand .srl (.reg .h) s)

/-- `SRL L` (rule R222). -/
def execSrlL (s : State) : Result := .next (rotateOperand .srl (.reg .l) s)

/-- `SRL (HL)` (rule R222). -/
def execSrlAtHl (s : State) : Result := .next (rotateOperand .srl .atHl s)

/-- `SRL A` (rule R222). -/
def execSrlA (s : State) : Result := .next (rotateOperand .srl (.reg .a) s)

end Sys2Proof.Machine
end

