-- ==== Sys2Proof/Machine/Prefix.lean ====
section
/-! DEFINITION. The prefix instruction (spec/30_encoding.md rule R110): the second byte's fields select the operation and
the operand by rule R107. -/

namespace Sys2Proof.Machine

/-- The operand `r[z]`, in the order B C D E H L (HL) A (rule R107). -/
def operandOf (z : Nat) : Operand8 :=
  match z with
  | 0 => .reg .b
  | 1 => .reg .c
  | 2 => .reg .d
  | 3 => .reg .e
  | 4 => .reg .h
  | 5 => .reg .l
  | 6 => .atHl
  | _ => .reg .a

/-- The rotate or shift of the field `y` (rule R107). -/
def rotOf (y : Nat) : RotOp :=
  match y with
  | 0 => .rlc
  | 1 => .rrc
  | 2 => .rl
  | 3 => .rr
  | 4 => .sla
  | 5 => .sra
  | 6 => .swap
  | _ => .srl

/-- The instruction that rule R107 gives for `op2`, by its fields `x`, `y` and `z` (rule R102). -/
def prefixed (op2 : Byte) (s : State) : State :=
  let x := op2.toNat / 64
  let y : Fin 8 := ⟨op2.toNat / 8 % 8, Nat.mod_lt _ (by decide)⟩
  let o := operandOf (op2.toNat % 8)
  match x with
  | 0 => rotateOperand (rotOf y) o s
  | 1 => bitTest y o s
  | 2 => bitRes y o s
  | _ => bitSet y o s

/-- `PREFIX CB` (rule R110). The prefix has no effect of its own. -/
def execPrefixCb (op2 : Byte) (s : State) : Result := .next (prefixed op2 s)

end Sys2Proof.Machine
end

