-- ==== Sys2Proof/WellFormed.lean ====
section
/-! DEFINITION. Which instruction terms are instructions. Every operand is a bit vector of its field's width or a closed
enumeration, so a term can be wrong in one way only: the row `PREFIX CB` is not an instruction of its own. Rule R113 has
the decoder take, for the first byte 0xCB, the row that matches both bytes, and property Q1 of spec/95_test_vectors.md
sets the row apart ("every row other than PREFIX CB"). Its meaning (rule R110) is modelled all the same. -/

namespace Sys2Proof

/-- Check 1 (and only one): the term is a row that a decoder answers, not the bare prefix. -/
def Instr.notBarePrefix : Instr → Bool
  | .prefixCb _ => false
  | _ => true

/-- A well-formed instruction. -/
def Instr.wellFormed (i : Instr) : Bool := i.notBarePrefix

end Sys2Proof
end

