-- ==== Sys2Proof/Decode.lean ====
section
/-! DEFINITION. The decoder, written on the opcode tables of spec/30_encoding.md (rule R105: primary, rule R107:
prefixed), and after it the encoder, written on the operand fields of rules R101 to R103 and of each instruction's own
Encoding clause. The two are written from different parts of the spec on purpose: that one undoes the other is a
statement about both. Neither refers to the other. -/

namespace Sys2Proof

/-! ## Decoder -/

/-- One cell of the primary table: an instruction and the format of rule R101 that says which bytes follow the opcode.
`code` is `OP`, `imm8` is `OP_N` and `OP_D`, `imm16` is `OP_NN`, `cbPrefix` is the byte 0xCB of rule R110. -/
inductive Cell where
  | code (i : Instr)
  | imm8 (mk : Byte → Instr)
  | imm16 (mk : Word → Instr)
  | cbPrefix

/-- The primary table of rule R105, one list for each row (high nibble of the first byte), its cells by the low nibble. -/
def primaryTable : List (List Cell) :=
  [[ -- 0x
     .code .nop, .imm16 .ldBcNn, .code .ldAtBcA, .code .incBc,
     .code .incB, .code .decB, .imm8 .ldBN, .code .rlca,
     .imm16 .ldAtNnSp, .code .addHlBc, .code .ldAAtBc, .code .decBc,
     .code .incC, .code .decC, .imm8 .ldCN, .code .rrca],
   [ -- 1x
     .code .stop, .imm16 .ldDeNn, .code .ldAtDeA, .code .incDe,
     .code .incD, .code .decD, .imm8 .ldDN, .code .rla,
     .imm8 .jrD8, .code .addHlDe, .code .ldAAtDe, .code .decDe,
     .code .incE, .code .decE, .imm8 .ldEN, .code .rra],
   [ -- 2x
     .imm8 .jrNzD8, .imm16 .ldHlNn, .code .ldAtHlIncA, .code .incHl,
     .code .incH, .code .decH, .imm8 .ldHN, .code .daa,
     .imm8 .jrZD8, .code .addHlHl, .code .ldAAtHlInc, .code .decHl,
     .code .incL, .code .decL, .imm8 .ldLN, .code .cpl],
   [ -- 3x
     .imm8 .jrNcD8, .imm16 .ldSpNn, .code .ldAtHlDecA, .code .incSp,
     .code .incAtHl, .code .decAtHl, .imm8 .ldAtHlN, .code .scf,
     .imm8 .jrCD8, .code .addHlSp, .code .ldAAtHlDec, .code .decSp,
     .code .incA, .code .decA, .imm8 .ldAN, .code .ccf],
   [ -- 4x
     .code .ldBB, .code .ldBC, .code .ldBD, .code .ldBE,
     .code .ldBH, .code .ldBL, .code .ldBAtHl, .code .ldBA,
     .code .ldCB, .code .ldCC, .code .ldCD, .code .ldCE,
     .code .ldCH, .code .ldCL, .code .ldCAtHl, .code .ldCA],
   [ -- 5x
     .code .ldDB, .code .ldDC, .code .ldDD, .code .ldDE,
     .code .ldDH, .code .ldDL, .code .ldDAtHl, .code .ldDA,
     .code .ldEB, .code .ldEC, .code .ldED, .code .ldEE,
     .code .ldEH, .code .ldEL, .code .ldEAtHl, .code .ldEA],
   [ -- 6x
     .code .ldHB, .code .ldHC, .code .ldHD, .code .ldHE,
     .code .ldHH, .code .ldHL, .code .ldHAtHl, .code .ldHA,
     .code .ldLB, .code .ldLC, .code .ldLD, .code .ldLE,
     .code .ldLH, .code .ldLL, .code .ldLAtHl, .code .ldLA],
   [ -- 7x
     .code .ldAtHlB, .code .ldAtHlC, .code .ldAtHlD, .code .ldAtHlE,
     .code .ldAtHlH, .code .ldAtHlL, .code .halt, .code .ldAtHlA,
     .code .ldAB, .code .ldAC, .code .ldAD, .code .ldAE,
     .code .ldAH, .code .ldAL, .code .ldAAtHl, .code .ldAA],
   [ -- 8x
     .code .addAB, .code .addAC, .code .addAD, .code .addAE,
     .code .addAH, .code .addAL, .code .addAAtHl, .code .addAA,
     .code .adcAB, .code .adcAC, .code .adcAD, .code .adcAE,
     .code .adcAH, .code .adcAL, .code .adcAAtHl, .code .adcAA],
   [ -- 9x
     .code .subB, .code .subC, .code .subD, .code .subE,
     .code .subH, .code .subL, .code .subAtHl, .code .subA,
     .code .sbcAB, .code .sbcAC, .code .sbcAD, .code .sbcAE,
     .code .sbcAH, .code .sbcAL, .code .sbcAAtHl, .code .sbcAA],
   [ -- Ax
     .code .andB, .code .andC, .code .andD, .code .andE,
     .code .andH, .code .andL, .code .andAtHl, .code .andA,
     .code .xorB, .code .xorC, .code .xorD, .code .xorE,
     .code .xorH, .code .xorL, .code .xorAtHl, .code .xorA],
   [ -- Bx
     .code .orB, .code .orC, .code .orD, .code .orE,
     .code .orH, .code .orL, .code .orAtHl, .code .orA,
     .code .cpB, .code .cpC, .code .cpD, .code .cpE,
     .code .cpH, .code .cpL, .code .cpAtHl, .code .cpA],
   [ -- Cx
     .code .retNz, .code .popBc, .imm16 .jpNzNn, .imm16 .jpNn,
     .imm16 .callNzNn, .code .pushBc, .imm8 .addAN, .code .rst00,
     .code .retZ, .code .ret, .imm16 .jpZNn, .cbPrefix,
     .imm16 .callZNn, .imm16 .callNn, .imm8 .adcAN, .code .rst08],
   [ -- Dx
     .code .retNc, .code .popDe, .imm16 .jpNcNn, .code .unmappedD3,
     .imm16 .callNcNn, .code .pushDe, .imm8 .subN, .code .rst10,
     .code .retC, .code .reti, .imm16 .jpCNn, .code .unmappedDB,
     .imm16 .callCNn, .code .unmappedDD, .imm8 .sbcAN, .code .rst18],
   [ -- Ex
     .imm8 .ldhAtNA, .code .popHl, .code .ldhAtCA, .code .unmappedE3,
     .code .unmappedE4, .code .pushHl, .imm8 .andN, .code .rst20,
     .imm8 .addSpD8, .code .jpHl, .imm16 .ldAtNnA, .code .unmappedEB,
     .code .unmappedEC, .code .unmappedED, .imm8 .xorN, .code .rst28],
   [ -- Fx
     .imm8 .ldhAAtN, .code .popAf, .code .ldhAAtC, .code .di,
     .code .unmappedF4, .code .pushAf, .imm8 .orN, .code .rst30,
     .imm8 .ldHlSpD, .code .ldSpHl, .imm16 .ldAAtNn, .code .ei,
     .code .unmappedFC, .code .unmappedFD, .imm8 .cpN, .code .rst38]]

/-- The prefixed table of rule R107, one list for each row of eight operands B C D E H L (HL) A. -/
def prefixedTable : List (List Instr) :=
  [[.rlcB, .rlcC, .rlcD, .rlcE, .rlcH, .rlcL, .rlcAtHl, .rlcA], -- 00-07
   [.rrcB, .rrcC, .rrcD, .rrcE, .rrcH, .rrcL, .rrcAtHl, .rrcA], -- 08-0F
   [.rlB, .rlC, .rlD, .rlE, .rlH, .rlL, .rlAtHl, .rlA], -- 10-17
   [.rrB, .rrC, .rrD, .rrE, .rrH, .rrL, .rrAtHl, .rrA], -- 18-1F
   [.slaB, .slaC, .slaD, .slaE, .slaH, .slaL, .slaAtHl, .slaA], -- 20-27
   [.sraB, .sraC, .sraD, .sraE, .sraH, .sraL, .sraAtHl, .sraA], -- 28-2F
   [.swapB, .swapC, .swapD, .swapE, .swapH, .swapL, .swapAtHl, .swapA], -- 30-37
   [.srlB, .srlC, .srlD, .srlE, .srlH, .srlL, .srlAtHl, .srlA], -- 38-3F
   [.bit0B, .bit0C, .bit0D, .bit0E, .bit0H, .bit0L, .bit0AtHl, .bit0A], -- 40-47
   [.bit1B, .bit1C, .bit1D, .bit1E, .bit1H, .bit1L, .bit1AtHl, .bit1A], -- 48-4F
   [.bit2B, .bit2C, .bit2D, .bit2E, .bit2H, .bit2L, .bit2AtHl, .bit2A], -- 50-57
   [.bit3B, .bit3C, .bit3D, .bit3E, .bit3H, .bit3L, .bit3AtHl, .bit3A], -- 58-5F
   [.bit4B, .bit4C, .bit4D, .bit4E, .bit4H, .bit4L, .bit4AtHl, .bit4A], -- 60-67
   [.bit5B, .bit5C, .bit5D, .bit5E, .bit5H, .bit5L, .bit5AtHl, .bit5A], -- 68-6F
   [.bit6B, .bit6C, .bit6D, .bit6E, .bit6H, .bit6L, .bit6AtHl, .bit6A], -- 70-77
   [.bit7B, .bit7C, .bit7D, .bit7E, .bit7H, .bit7L, .bit7AtHl, .bit7A], -- 78-7F
   [.res0B, .res0C, .res0D, .res0E, .res0H, .res0L, .res0AtHl, .res0A], -- 80-87
   [.res1B, .res1C, .res1D, .res1E, .res1H, .res1L, .res1AtHl, .res1A], -- 88-8F
   [.res2B, .res2C, .res2D, .res2E, .res2H, .res2L, .res2AtHl, .res2A], -- 90-97
   [.res3B, .res3C, .res3D, .res3E, .res3H, .res3L, .res3AtHl, .res3A], -- 98-9F
   [.res4B, .res4C, .res4D, .res4E, .res4H, .res4L, .res4AtHl, .res4A], -- A0-A7
   [.res5B, .res5C, .res5D, .res5E, .res5H, .res5L, .res5AtHl, .res5A], -- A8-AF
   [.res6B, .res6C, .res6D, .res6E, .res6H, .res6L, .res6AtHl, .res6A], -- B0-B7
   [.res7B, .res7C, .res7D, .res7E, .res7H, .res7L, .res7AtHl, .res7A], -- B8-BF
   [.set0B, .set0C, .set0D, .set0E, .set0H, .set0L, .set0AtHl, .set0A], -- C0-C7
   [.set1B, .set1C, .set1D, .set1E, .set1H, .set1L, .set1AtHl, .set1A], -- C8-CF
   [.set2B, .set2C, .set2D, .set2E, .set2H, .set2L, .set2AtHl, .set2A], -- D0-D7
   [.set3B, .set3C, .set3D, .set3E, .set3H, .set3L, .set3AtHl, .set3A], -- D8-DF
   [.set4B, .set4C, .set4D, .set4E, .set4H, .set4L, .set4AtHl, .set4A], -- E0-E7
   [.set5B, .set5C, .set5D, .set5E, .set5H, .set5L, .set5AtHl, .set5A], -- E8-EF
   [.set6B, .set6C, .set6D, .set6E, .set6H, .set6L, .set6AtHl, .set6A], -- F0-F7
   [.set7B, .set7C, .set7D, .set7E, .set7H, .set7L, .set7AtHl, .set7A]] -- F8-FF

/-- The cell of the primary table for a first byte. -/
def primaryCell (op : Byte) : Cell :=
  ((primaryTable.getD (op.toNat / 16) []).getD (op.toNat % 16) (.code .nop))

/-- The instruction of the prefixed table for a second byte. -/
def prefixedInstr (op2 : Byte) : Instr :=
  ((prefixedTable.getD (op2.toNat / 8) []).getD (op2.toNat % 8) .nop)

/-- How many bytes an instruction with this first cell has (rule R101). -/
def Cell.length : Cell → Nat
  | .code _ => 1
  | .imm8 _ => 2
  | .imm16 _ => 3
  | .cbPrefix => 2

/-- The instruction, given the two bytes after the first one; a cell that has no use for a byte ignores it. A 16-bit
immediate has its low byte first (rule R104). The byte after 0xCB selects a row of the prefixed table (rule R113). -/
def Cell.instr (cell : Cell) (b1 b2 : Byte) : Instr :=
  match cell with
  | .code i => i
  | .imm8 mk => mk b1
  | .imm16 mk => mk (joinBytes b2 b1)
  | .cbPrefix => prefixedInstr b1

/-- The instruction the three bytes at the program counter hold. Total and free of context (rule R113). -/
def decodeInstr (b0 b1 b2 : Byte) : Instr := (primaryCell b0).instr b1 b2

/-- Its length in bytes, which the first byte alone decides (rule R101). -/
def decodeLength (b0 : Byte) : Nat := (primaryCell b0).length

/-- Why a byte sequence is not an instruction. The hardware never stops for either reason (rule R113: the bus always has
a next byte); only a finite list of bytes can end too early. -/
inductive DecodeError where
  /-- There is no byte at all. -/
  | noByte
  /-- The first byte asks for more bytes than there are. -/
  | cutShort
  deriving DecidableEq, Repr

/-- Decode the instruction at the head of a byte list, and answer it with the bytes after it. -/
def decode (bytes : List Byte) : Except DecodeError (Instr × List Byte) :=
  match bytes with
  | [] => .error .noByte
  | b0 :: rest =>
    match primaryCell b0, rest with
    | .code i, rest => .ok (i, rest)
    | .imm8 mk, b1 :: rest => .ok (mk b1, rest)
    | .imm16 mk, b1 :: b2 :: rest => .ok (mk (joinBytes b2 b1), rest)
    | .cbPrefix, b1 :: rest => .ok (prefixedInstr b1, rest)
    | _, _ => .error .cutShort

/-- The bytes, in fetch order, of an instruction whose bits are `w` as spec/opcode_table.json numbers them. A row of one
byte has its opcode in bits 7 to 0. A prefixed row is numbered "byte1 ++ byte2" (rule R116), so its 0xCB stands in bits
15 to 8 and its second byte in bits 7 to 0. Any other word of more than one byte counts on from its first byte. -/
def tableBytes (nbits w : Nat) : List Byte :=
  if nbits = 16 ∧ w / 256 % 256 = 0xCB then [0xCB#8, BitVec.ofNat 8 w, 0#8]
  else
    let kept := w % 2 ^ nbits
    [BitVec.ofNat 8 kept, BitVec.ofNat 8 (kept / 256), BitVec.ofNat 8 (kept / 65536)]

/-- What the decoder reads from a word of the opcode table. -/
def decodeTableWord (nbits w : Nat) : Option Instr :=
  match decode (tableBytes nbits w) with
  | .ok (i, _) => some i
  | .error _ => none

/-! ## Encoder -/

/-- The operand fields of each row (rules R103, R105 and R107). -/
def Instr.form : Instr → Form
  | .nop => .nop
  | .ldBcNn nn => .ldPairImm .bc nn
  | .ldAtBcA => .ldAtBcA
  | .incBc => .incPair .bc
  | .incB => .incReg .b
  | .decB => .decReg .b
  | .ldBN n => .ldRegImm .b n
  | .rlca => .rlca
  | .ldAtNnSp nn => .ldAtNnSp nn
  | .addHlBc => .addHl .bc
  | .ldAAtBc => .ldAAtBc
  | .decBc => .decPair .bc
  | .incC => .incReg .c
  | .decC => .decReg .c
  | .ldCN n => .ldRegImm .c n
  | .rrca => .rrca
  | .stop => .stop
  | .ldDeNn nn => .ldPairImm .de nn
  | .ldAtDeA => .ldAtDeA
  | .incDe => .incPair .de
  | .incD => .incReg .d
  | .decD => .decReg .d
  | .ldDN n => .ldRegImm .d n
  | .rla => .rla
  | .jrD8 d => .jr d
  | .addHlDe => .addHl .de
  | .ldAAtDe => .ldAAtDe
  | .decDe => .decPair .de
  | .incE => .incReg .e
  | .decE => .decReg .e
  | .ldEN n => .ldRegImm .e n
  | .rra => .rra
  | .jrNzD8 d => .jrCond .nz d
  | .ldHlNn nn => .ldPairImm .hl nn
  | .ldAtHlIncA => .ldAtHlIncA
  | .incHl => .incPair .hl
  | .incH => .incReg .h
  | .decH => .decReg .h
  | .ldHN n => .ldRegImm .h n
  | .daa => .daa
  | .jrZD8 d => .jrCond .z d
  | .addHlHl => .addHl .hl
  | .ldAAtHlInc => .ldAAtHlInc
  | .decHl => .decPair .hl
  | .incL => .incReg .l
  | .decL => .decReg .l
  | .ldLN n => .ldRegImm .l n
  | .cpl => .cpl
  | .jrNcD8 d => .jrCond .nc d
  | .ldSpNn nn => .ldPairImm .sp nn
  | .ldAtHlDecA => .ldAtHlDecA
  | .incSp => .incPair .sp
  | .incAtHl => .incAtHl
  | .decAtHl => .decAtHl
  | .ldAtHlN n => .ldAtHlImm n
  | .scf => .scf
  | .jrCD8 d => .jrCond .c d
  | .addHlSp => .addHl .sp
  | .ldAAtHlDec => .ldAAtHlDec
  | .decSp => .decPair .sp
  | .incA => .incReg .a
  | .decA => .decReg .a
  | .ldAN n => .ldRegImm .a n
  | .ccf => .ccf
  | .ldBB => .ldRegReg .b .b
  | .ldBC => .ldRegReg .b .c
  | .ldBD => .ldRegReg .b .d
  | .ldBE => .ldRegReg .b .e
  | .ldBH => .ldRegReg .b .h
  | .ldBL => .ldRegReg .b .l
  | .ldBAtHl => .ldRegAtHl .b
  | .ldBA => .ldRegReg .b .a
  | .ldCB => .ldRegReg .c .b
  | .ldCC => .ldRegReg .c .c
  | .ldCD => .ldRegReg .c .d
  | .ldCE => .ldRegReg .c .e
  | .ldCH => .ldRegReg .c .h
  | .ldCL => .ldRegReg .c .l
  | .ldCAtHl => .ldRegAtHl .c
  | .ldCA => .ldRegReg .c .a
  | .ldDB => .ldRegReg .d .b
  | .ldDC => .ldRegReg .d .c
  | .ldDD => .ldRegReg .d .d
  | .ldDE => .ldRegReg .d .e
  | .ldDH => .ldRegReg .d .h
  | .ldDL => .ldRegReg .d .l
  | .ldDAtHl => .ldRegAtHl .d
  | .ldDA => .ldRegReg .d .a
  | .ldEB => .ldRegReg .e .b
  | .ldEC => .ldRegReg .e .c
  | .ldED => .ldRegReg .e .d
  | .ldEE => .ldRegReg .e .e
  | .ldEH => .ldRegReg .e .h
  | .ldEL => .ldRegReg .e .l
  | .ldEAtHl => .ldRegAtHl .e
  | .ldEA => .ldRegReg .e .a
  | .ldHB => .ldRegReg .h .b
  | .ldHC => .ldRegReg .h .c
  | .ldHD => .ldRegReg .h .d
  | .ldHE => .ldRegReg .h .e
  | .ldHH => .ldRegReg .h .h
  | .ldHL => .ldRegReg .h .l
  | .ldHAtHl => .ldRegAtHl .h
  | .ldHA => .ldRegReg .h .a
  | .ldLB => .ldRegReg .l .b
  | .ldLC => .ldRegReg .l .c
  | .ldLD => .ldRegReg .l .d
  | .ldLE => .ldRegReg .l .e
  | .ldLH => .ldRegReg .l .h
  | .ldLL => .ldRegReg .l .l
  | .ldLAtHl => .ldRegAtHl .l
  | .ldLA => .ldRegReg .l .a
  | .ldAtHlB => .ldAtHlReg .b
  | .ldAtHlC => .ldAtHlReg .c
  | .ldAtHlD => .ldAtHlReg .d
  | .ldAtHlE => .ldAtHlReg .e
  | .ldAtHlH => .ldAtHlReg .h
  | .ldAtHlL => .ldAtHlReg .l
  | .halt => .halt
  | .ldAtHlA => .ldAtHlReg .a
  | .ldAB => .ldRegReg .a .b
  | .ldAC => .ldRegReg .a .c
  | .ldAD => .ldRegReg .a .d
  | .ldAE => .ldRegReg .a .e
  | .ldAH => .ldRegReg .a .h
  | .ldAL => .ldRegReg .a .l
  | .ldAAtHl => .ldRegAtHl .a
  | .ldAA => .ldRegReg .a .a
  | .addAB => .aluReg .add .b
  | .addAC => .aluReg .add .c
  | .addAD => .aluReg .add .d
  | .addAE => .aluReg .add .e
  | .addAH => .aluReg .add .h
  | .addAL => .aluReg .add .l
  | .addAAtHl => .aluAtHl .add
  | .addAA => .aluReg .add .a
  | .adcAB => .aluReg .adc .b
  | .adcAC => .aluReg .adc .c
  | .adcAD => .aluReg .adc .d
  | .adcAE => .aluReg .adc .e
  | .adcAH => .aluReg .adc .h
  | .adcAL => .aluReg .adc .l
  | .adcAAtHl => .aluAtHl .adc
  | .adcAA => .aluReg .adc .a
  | .subB => .aluReg .sub .b
  | .subC => .aluReg .sub .c
  | .subD => .aluReg .sub .d
  | .subE => .aluReg .sub .e
  | .subH => .aluReg .sub .h
  | .subL => .aluReg .sub .l
  | .subAtHl => .aluAtHl .sub
  | .subA => .aluReg .sub .a
  | .sbcAB => .aluReg .sbc .b
  | .sbcAC => .aluReg .sbc .c
  | .sbcAD => .aluReg .sbc .d
  | .sbcAE => .aluReg .sbc .e
  | .sbcAH => .aluReg .sbc .h
  | .sbcAL => .aluReg .sbc .l
  | .sbcAAtHl => .aluAtHl .sbc
  | .sbcAA => .aluReg .sbc .a
  | .andB => .aluReg .and .b
  | .andC => .aluReg .and .c
  | .andD => .aluReg .and .d
  | .andE => .aluReg .and .e
  | .andH => .aluReg .and .h
  | .andL => .aluReg .and .l
  | .andAtHl => .aluAtHl .and
  | .andA => .aluReg .and .a
  | .xorB => .aluReg .xor .b
  | .xorC => .aluReg .xor .c
  | .xorD => .aluReg .xor .d
  | .xorE => .aluReg .xor .e
  | .xorH => .aluReg .xor .h
  | .xorL => .aluReg .xor .l
  | .xorAtHl => .aluAtHl .xor
  | .xorA => .aluReg .xor .a
  | .orB => .aluReg .or .b
  | .orC => .aluReg .or .c
  | .orD => .aluReg .or .d
  | .orE => .aluReg .or .e
  | .orH => .aluReg .or .h
  | .orL => .aluReg .or .l
  | .orAtHl => .aluAtHl .or
  | .orA => .aluReg .or .a
  | .cpB => .aluReg .cp .b
  | .cpC => .aluReg .cp .c
  | .cpD => .aluReg .cp .d
  | .cpE => .aluReg .cp .e
  | .cpH => .aluReg .cp .h
  | .cpL => .aluReg .cp .l
  | .cpAtHl => .aluAtHl .cp
  | .cpA => .aluReg .cp .a
  | .retNz => .retCond .nz
  | .popBc => .pop .bc
  | .jpNzNn nn => .jpCond .nz nn
  | .jpNn nn => .jp nn
  | .callNzNn nn => .callCond .nz nn
  | .pushBc => .push .bc
  | .addAN n => .aluImm .add n
  | .rst00 => .rst 0
  | .retZ => .retCond .z
  | .ret => .ret
  | .jpZNn nn => .jpCond .z nn
  | .prefixCb op2 => .prefixCb op2
  | .callZNn nn => .callCond .z nn
  | .callNn nn => .call nn
  | .adcAN n => .aluImm .adc n
  | .rst08 => .rst 1
  | .retNc => .retCond .nc
  | .popDe => .pop .de
  | .jpNcNn nn => .jpCond .nc nn
  | .unmappedD3 => .unmapped .xD3
  | .callNcNn nn => .callCond .nc nn
  | .pushDe => .push .de
  | .subN n => .aluImm .sub n
  | .rst10 => .rst 2
  | .retC => .retCond .c
  | .reti => .reti
  | .jpCNn nn => .jpCond .c nn
  | .unmappedDB => .unmapped .xDB
  | .callCNn nn => .callCond .c nn
  | .unmappedDD => .unmapped .xDD
  | .sbcAN n => .aluImm .sbc n
  | .rst18 => .rst 3
  | .ldhAtNA n => .ldhAtNA n
  | .popHl => .pop .hl
  | .ldhAtCA => .ldhAtCA
  | .unmappedE3 => .unmapped .xE3
  | .unmappedE4 => .unmapped .xE4
  | .pushHl => .push .hl
  | .andN n => .aluImm .and n
  | .rst20 => .rst 4
  | .addSpD8 d => .addSpDisp d
  | .jpHl => .jpHl
  | .ldAtNnA nn => .ldAtNnA nn
  | .unmappedEB => .unmapped .xEB
  | .unmappedEC => .unmapped .xEC
  | .unmappedED => .unmapped .xED
  | .xorN n => .aluImm .xor n
  | .rst28 => .rst 5
  | .ldhAAtN n => .ldhAAtN n
  | .popAf => .pop .af
  | .ldhAAtC => .ldhAAtC
  | .di => .di
  | .unmappedF4 => .unmapped .xF4
  | .pushAf => .push .af
  | .orN n => .aluImm .or n
  | .rst30 => .rst 6
  | .ldHlSpD d => .ldHlSpDisp d
  | .ldSpHl => .ldSpHl
  | .ldAAtNn nn => .ldAAtNn nn
  | .ei => .ei
  | .unmappedFC => .unmapped .xFC
  | .unmappedFD => .unmapped .xFD
  | .cpN n => .aluImm .cp n
  | .rst38 => .rst 7
  | .rlcB => .rot .rlc (.reg .b)
  | .rlcC => .rot .rlc (.reg .c)
  | .rlcD => .rot .rlc (.reg .d)
  | .rlcE => .rot .rlc (.reg .e)
  | .rlcH => .rot .rlc (.reg .h)
  | .rlcL => .rot .rlc (.reg .l)
  | .rlcAtHl => .rot .rlc .atHl
  | .rlcA => .rot .rlc (.reg .a)
  | .rrcB => .rot .rrc (.reg .b)
  | .rrcC => .rot .rrc (.reg .c)
  | .rrcD => .rot .rrc (.reg .d)
  | .rrcE => .rot .rrc (.reg .e)
  | .rrcH => .rot .rrc (.reg .h)
  | .rrcL => .rot .rrc (.reg .l)
  | .rrcAtHl => .rot .rrc .atHl
  | .rrcA => .rot .rrc (.reg .a)
  | .rlB => .rot .rl (.reg .b)
  | .rlC => .rot .rl (.reg .c)
  | .rlD => .rot .rl (.reg .d)
  | .rlE => .rot .rl (.reg .e)
  | .rlH => .rot .rl (.reg .h)
  | .rlL => .rot .rl (.reg .l)
  | .rlAtHl => .rot .rl .atHl
  | .rlA => .rot .rl (.reg .a)
  | .rrB => .rot .rr (.reg .b)
  | .rrC => .rot .rr (.reg .c)
  | .rrD => .rot .rr (.reg .d)
  | .rrE => .rot .rr (.reg .e)
  | .rrH => .rot .rr (.reg .h)
  | .rrL => .rot .rr (.reg .l)
  | .rrAtHl => .rot .rr .atHl
  | .rrA => .rot .rr (.reg .a)
  | .slaB => .rot .sla (.reg .b)
  | .slaC => .rot .sla (.reg .c)
  | .slaD => .rot .sla (.reg .d)
  | .slaE => .rot .sla (.reg .e)
  | .slaH => .rot .sla (.reg .h)
  | .slaL => .rot .sla (.reg .l)
  | .slaAtHl => .rot .sla .atHl
  | .slaA => .rot .sla (.reg .a)
  | .sraB => .rot .sra (.reg .b)
  | .sraC => .rot .sra (.reg .c)
  | .sraD => .rot .sra (.reg .d)
  | .sraE => .rot .sra (.reg .e)
  | .sraH => .rot .sra (.reg .h)
  | .sraL => .rot .sra (.reg .l)
  | .sraAtHl => .rot .sra .atHl
  | .sraA => .rot .sra (.reg .a)
  | .swapB => .rot .swap (.reg .b)
  | .swapC => .rot .swap (.reg .c)
  | .swapD => .rot .swap (.reg .d)
  | .swapE => .rot .swap (.reg .e)
  | .swapH => .rot .swap (.reg .h)
  | .swapL => .rot .swap (.reg .l)
  | .swapAtHl => .rot .swap .atHl
  | .swapA => .rot .swap (.reg .a)
  | .srlB => .rot .srl (.reg .b)
  | .srlC => .rot .srl (.reg .c)
  | .srlD => .rot .srl (.reg .d)
  | .srlE => .rot .srl (.reg .e)
  | .srlH => .rot .srl (.reg .h)
  | .srlL => .rot .srl (.reg .l)
  | .srlAtHl => .rot .srl .atHl
  | .srlA => .rot .srl (.reg .a)
  | .bit0B => .bitTest 0 (.reg .b)
  | .bit0C => .bitTest 0 (.reg .c)
  | .bit0D => .bitTest 0 (.reg .d)
  | .bit0E => .bitTest 0 (.reg .e)
  | .bit0H => .bitTest 0 (.reg .h)
  | .bit0L => .bitTest 0 (.reg .l)
  | .bit0AtHl => .bitTest 0 .atHl
  | .bit0A => .bitTest 0 (.reg .a)
  | .bit1B => .bitTest 1 (.reg .b)
  | .bit1C => .bitTest 1 (.reg .c)
  | .bit1D => .bitTest 1 (.reg .d)
  | .bit1E => .bitTest 1 (.reg .e)
  | .bit1H => .bitTest 1 (.reg .h)
  | .bit1L => .bitTest 1 (.reg .l)
  | .bit1AtHl => .bitTest 1 .atHl
  | .bit1A => .bitTest 1 (.reg .a)
  | .bit2B => .bitTest 2 (.reg .b)
  | .bit2C => .bitTest 2 (.reg .c)
  | .bit2D => .bitTest 2 (.reg .d)
  | .bit2E => .bitTest 2 (.reg .e)
  | .bit2H => .bitTest 2 (.reg .h)
  | .bit2L => .bitTest 2 (.reg .l)
  | .bit2AtHl => .bitTest 2 .atHl
  | .bit2A => .bitTest 2 (.reg .a)
  | .bit3B => .bitTest 3 (.reg .b)
  | .bit3C => .bitTest 3 (.reg .c)
  | .bit3D => .bitTest 3 (.reg .d)
  | .bit3E => .bitTest 3 (.reg .e)
  | .bit3H => .bitTest 3 (.reg .h)
  | .bit3L => .bitTest 3 (.reg .l)
  | .bit3AtHl => .bitTest 3 .atHl
  | .bit3A => .bitTest 3 (.reg .a)
  | .bit4B => .bitTest 4 (.reg .b)
  | .bit4C => .bitTest 4 (.reg .c)
  | .bit4D => .bitTest 4 (.reg .d)
  | .bit4E => .bitTest 4 (.reg .e)
  | .bit4H => .bitTest 4 (.reg .h)
  | .bit4L => .bitTest 4 (.reg .l)
  | .bit4AtHl => .bitTest 4 .atHl
  | .bit4A => .bitTest 4 (.reg .a)
  | .bit5B => .bitTest 5 (.reg .b)
  | .bit5C => .bitTest 5 (.reg .c)
  | .bit5D => .bitTest 5 (.reg .d)
  | .bit5E => .bitTest 5 (.reg .e)
  | .bit5H => .bitTest 5 (.reg .h)
  | .bit5L => .bitTest 5 (.reg .l)
  | .bit5AtHl => .bitTest 5 .atHl
  | .bit5A => .bitTest 5 (.reg .a)
  | .bit6B => .bitTest 6 (.reg .b)
  | .bit6C => .bitTest 6 (.reg .c)
  | .bit6D => .bitTest 6 (.reg .d)
  | .bit6E => .bitTest 6 (.reg .e)
  | .bit6H => .bitTest 6 (.reg .h)
  | .bit6L => .bitTest 6 (.reg .l)
  | .bit6AtHl => .bitTest 6 .atHl
  | .bit6A => .bitTest 6 (.reg .a)
  | .bit7B => .bitTest 7 (.reg .b)
  | .bit7C => .bitTest 7 (.reg .c)
  | .bit7D => .bitTest 7 (.reg .d)
  | .bit7E => .bitTest 7 (.reg .e)
  | .bit7H => .bitTest 7 (.reg .h)
  | .bit7L => .bitTest 7 (.reg .l)
  | .bit7AtHl => .bitTest 7 .atHl
  | .bit7A => .bitTest 7 (.reg .a)
  | .res0B => .bitRes 0 (.reg .b)
  | .res0C => .bitRes 0 (.reg .c)
  | .res0D => .bitRes 0 (.reg .d)
  | .res0E => .bitRes 0 (.reg .e)
  | .res0H => .bitRes 0 (.reg .h)
  | .res0L => .bitRes 0 (.reg .l)
  | .res0AtHl => .bitRes 0 .atHl
  | .res0A => .bitRes 0 (.reg .a)
  | .res1B => .bitRes 1 (.reg .b)
  | .res1C => .bitRes 1 (.reg .c)
  | .res1D => .bitRes 1 (.reg .d)
  | .res1E => .bitRes 1 (.reg .e)
  | .res1H => .bitRes 1 (.reg .h)
  | .res1L => .bitRes 1 (.reg .l)
  | .res1AtHl => .bitRes 1 .atHl
  | .res1A => .bitRes 1 (.reg .a)
  | .res2B => .bitRes 2 (.reg .b)
  | .res2C => .bitRes 2 (.reg .c)
  | .res2D => .bitRes 2 (.reg .d)
  | .res2E => .bitRes 2 (.reg .e)
  | .res2H => .bitRes 2 (.reg .h)
  | .res2L => .bitRes 2 (.reg .l)
  | .res2AtHl => .bitRes 2 .atHl
  | .res2A => .bitRes 2 (.reg .a)
  | .res3B => .bitRes 3 (.reg .b)
  | .res3C => .bitRes 3 (.reg .c)
  | .res3D => .bitRes 3 (.reg .d)
  | .res3E => .bitRes 3 (.reg .e)
  | .res3H => .bitRes 3 (.reg .h)
  | .res3L => .bitRes 3 (.reg .l)
  | .res3AtHl => .bitRes 3 .atHl
  | .res3A => .bitRes 3 (.reg .a)
  | .res4B => .bitRes 4 (.reg .b)
  | .res4C => .bitRes 4 (.reg .c)
  | .res4D => .bitRes 4 (.reg .d)
  | .res4E => .bitRes 4 (.reg .e)
  | .res4H => .bitRes 4 (.reg .h)
  | .res4L => .bitRes 4 (.reg .l)
  | .res4AtHl => .bitRes 4 .atHl
  | .res4A => .bitRes 4 (.reg .a)
  | .res5B => .bitRes 5 (.reg .b)
  | .res5C => .bitRes 5 (.reg .c)
  | .res5D => .bitRes 5 (.reg .d)
  | .res5E => .bitRes 5 (.reg .e)
  | .res5H => .bitRes 5 (.reg .h)
  | .res5L => .bitRes 5 (.reg .l)
  | .res5AtHl => .bitRes 5 .atHl
  | .res5A => .bitRes 5 (.reg .a)
  | .res6B => .bitRes 6 (.reg .b)
  | .res6C => .bitRes 6 (.reg .c)
  | .res6D => .bitRes 6 (.reg .d)
  | .res6E => .bitRes 6 (.reg .e)
  | .res6H => .bitRes 6 (.reg .h)
  | .res6L => .bitRes 6 (.reg .l)
  | .res6AtHl => .bitRes 6 .atHl
  | .res6A => .bitRes 6 (.reg .a)
  | .res7B => .bitRes 7 (.reg .b)
  | .res7C => .bitRes 7 (.reg .c)
  | .res7D => .bitRes 7 (.reg .d)
  | .res7E => .bitRes 7 (.reg .e)
  | .res7H => .bitRes 7 (.reg .h)
  | .res7L => .bitRes 7 (.reg .l)
  | .res7AtHl => .bitRes 7 .atHl
  | .res7A => .bitRes 7 (.reg .a)
  | .set0B => .bitSet 0 (.reg .b)
  | .set0C => .bitSet 0 (.reg .c)
  | .set0D => .bitSet 0 (.reg .d)
  | .set0E => .bitSet 0 (.reg .e)
  | .set0H => .bitSet 0 (.reg .h)
  | .set0L => .bitSet 0 (.reg .l)
  | .set0AtHl => .bitSet 0 .atHl
  | .set0A => .bitSet 0 (.reg .a)
  | .set1B => .bitSet 1 (.reg .b)
  | .set1C => .bitSet 1 (.reg .c)
  | .set1D => .bitSet 1 (.reg .d)
  | .set1E => .bitSet 1 (.reg .e)
  | .set1H => .bitSet 1 (.reg .h)
  | .set1L => .bitSet 1 (.reg .l)
  | .set1AtHl => .bitSet 1 .atHl
  | .set1A => .bitSet 1 (.reg .a)
  | .set2B => .bitSet 2 (.reg .b)
  | .set2C => .bitSet 2 (.reg .c)
  | .set2D => .bitSet 2 (.reg .d)
  | .set2E => .bitSet 2 (.reg .e)
  | .set2H => .bitSet 2 (.reg .h)
  | .set2L => .bitSet 2 (.reg .l)
  | .set2AtHl => .bitSet 2 .atHl
  | .set2A => .bitSet 2 (.reg .a)
  | .set3B => .bitSet 3 (.reg .b)
  | .set3C => .bitSet 3 (.reg .c)
  | .set3D => .bitSet 3 (.reg .d)
  | .set3E => .bitSet 3 (.reg .e)
  | .set3H => .bitSet 3 (.reg .h)
  | .set3L => .bitSet 3 (.reg .l)
  | .set3AtHl => .bitSet 3 .atHl
  | .set3A => .bitSet 3 (.reg .a)
  | .set4B => .bitSet 4 (.reg .b)
  | .set4C => .bitSet 4 (.reg .c)
  | .set4D => .bitSet 4 (.reg .d)
  | .set4E => .bitSet 4 (.reg .e)
  | .set4H => .bitSet 4 (.reg .h)
  | .set4L => .bitSet 4 (.reg .l)
  | .set4AtHl => .bitSet 4 .atHl
  | .set4A => .bitSet 4 (.reg .a)
  | .set5B => .bitSet 5 (.reg .b)
  | .set5C => .bitSet 5 (.reg .c)
  | .set5D => .bitSet 5 (.reg .d)
  | .set5E => .bitSet 5 (.reg .e)
  | .set5H => .bitSet 5 (.reg .h)
  | .set5L => .bitSet 5 (.reg .l)
  | .set5AtHl => .bitSet 5 .atHl
  | .set5A => .bitSet 5 (.reg .a)
  | .set6B => .bitSet 6 (.reg .b)
  | .set6C => .bitSet 6 (.reg .c)
  | .set6D => .bitSet 6 (.reg .d)
  | .set6E => .bitSet 6 (.reg .e)
  | .set6H => .bitSet 6 (.reg .h)
  | .set6L => .bitSet 6 (.reg .l)
  | .set6AtHl => .bitSet 6 .atHl
  | .set6A => .bitSet 6 (.reg .a)
  | .set7B => .bitSet 7 (.reg .b)
  | .set7C => .bitSet 7 (.reg .c)
  | .set7D => .bitSet 7 (.reg .d)
  | .set7E => .bitSet 7 (.reg .e)
  | .set7H => .bitSet 7 (.reg .h)
  | .set7L => .bitSet 7 (.reg .l)
  | .set7AtHl => .bitSet 7 .atHl
  | .set7A => .bitSet 7 (.reg .a)

/-- The 3-bit code of a register field (rule R103). -/
def Reg8.code : Reg8 → BitVec 3
  | .b => 0 | .c => 1 | .d => 2 | .e => 3 | .h => 4 | .l => 5 | .a => 7

/-- The 3-bit code of an operand `r[z]`; 6 is `(HL)` (rule R103). -/
def Operand8.code : Operand8 → BitVec 3
  | .reg r => r.code
  | .atHl => 6

/-- The 2-bit code of the `rp` field (rule R103). -/
def Pair.code : Pair → BitVec 2
  | .bc => 0 | .de => 1 | .hl => 2 | .sp => 3

/-- The 2-bit code of the `rp2` field (rule R103). -/
def StackPair.code : StackPair → BitVec 2
  | .bc => 0 | .de => 1 | .hl => 2 | .af => 3

/-- The 2-bit code of the `cc` field (rule R103). -/
def Cond.code : Cond → BitVec 2
  | .nz => 0 | .z => 1 | .nc => 2 | .c => 3

/-- The 3-bit code of the `alu` field (rule R103). -/
def AluOp.code : AluOp → BitVec 3
  | .add => 0 | .adc => 1 | .sub => 2 | .sbc => 3 | .and => 4 | .xor => 5 | .or => 6 | .cp => 7

/-- The 3-bit code of the `rot` field (rule R103). -/
def RotOp.code : RotOp → BitVec 3
  | .rlc => 0 | .rrc => 1 | .rl => 2 | .rr => 3 | .sla => 4 | .sra => 5 | .swap => 6 | .srl => 7

/-- The byte of an unmapped opcode (rule R111). -/
def UnmappedOp.byte : UnmappedOp → Byte
  | .xD3 => 0xD3 | .xDB => 0xDB | .xDD => 0xDD | .xE3 => 0xE3 | .xE4 => 0xE4 | .xEB => 0xEB
  | .xEC => 0xEC | .xED => 0xED | .xF4 => 0xF4 | .xFC => 0xFC | .xFD => 0xFD

/-- An opcode byte from its fields `x`, `y`, `z` (rule R102). -/
def xyz (x : BitVec 2) (y z : BitVec 3) : Byte := x ++ y ++ z

/-- An opcode byte from its fields `x`, `p`, `q`, `z` (rule R102). -/
def xpqz (x p : BitVec 2) (q : BitVec 1) (z : BitVec 3) : Byte := x ++ p ++ q ++ z

/-- A number 0 to 7 as the 3-bit field `y` (bit number, RST target). -/
def field3 (k : Fin 8) : BitVec 3 := BitVec.ofNat 3 k.val

/-- Format `OP_NN`: the opcode, then the low and the high byte of `nn` (rule R101). -/
def opNN (op : Byte) (nn : Word) : List Byte := [op, loByte nn, hiByte nn]

/-- The bytes of an instruction, from the Encoding clause of its rule. -/
def Form.encode : Form → List Byte
  | .nop => [0x00]
  | .halt => [0x76]
  | .stop => [0x10]
  | .di => [0xF3]
  | .ei => [0xFB]
  | .unmapped u => [u.byte]
  | .ldRegReg dst src => [xyz 0b01 dst.code src.code]
  | .ldRegImm dst n => [xyz 0b00 dst.code 0b110, n]
  | .ldRegAtHl dst => [xyz 0b01 dst.code 0b110]
  | .ldAtHlReg src => [xyz 0b01 0b110 src.code]
  | .ldAtHlImm n => [0x36, n]
  | .ldAAtBc => [0x0A]
  | .ldAAtDe => [0x1A]
  | .ldAtBcA => [0x02]
  | .ldAtDeA => [0x12]
  | .ldAAtNn nn => opNN 0xFA nn
  | .ldAtNnA nn => opNN 0xEA nn
  | .ldhAAtN n => [0xF0, n]
  | .ldhAtNA n => [0xE0, n]
  | .ldhAAtC => [0xF2]
  | .ldhAtCA => [0xE2]
  | .ldAtHlIncA => [0x22]
  | .ldAAtHlInc => [0x2A]
  | .ldAtHlDecA => [0x32]
  | .ldAAtHlDec => [0x3A]
  | .ldPairImm rp nn => opNN (xpqz 0b00 rp.code 0 0b001) nn
  | .ldAtNnSp nn => opNN 0x08 nn
  | .ldSpHl => [0xF9]
  | .ldHlSpDisp d => [0xF8, d]
  | .push q => [xpqz 0b11 q.code 0 0b101]
  | .pop q => [xpqz 0b11 q.code 0 0b001]
  | .aluReg op r => [xyz 0b10 op.code r.code]
  | .aluAtHl op => [xyz 0b10 op.code 0b110]
  | .aluImm op n => [xyz 0b11 op.code 0b110, n]
  | .incReg r => [xyz 0b00 r.code 0b100]
  | .incAtHl => [0x34]
  | .decReg r => [xyz 0b00 r.code 0b101]
  | .decAtHl => [0x35]
  | .daa => [0x27]
  | .cpl => [0x2F]
  | .scf => [0x37]
  | .ccf => [0x3F]
  | .addHl rp => [xpqz 0b00 rp.code 1 0b001]
  | .incPair rp => [xpqz 0b00 rp.code 0 0b011]
  | .decPair rp => [xpqz 0b00 rp.code 1 0b011]
  | .addSpDisp d => [0xE8, d]
  | .rlca => [0x07]
  | .rrca => [0x0F]
  | .rla => [0x17]
  | .rra => [0x1F]
  | .rot op o => [0xCB, xyz 0b00 op.code o.code]
  | .bitTest b o => [0xCB, xyz 0b01 (field3 b) o.code]
  | .bitRes b o => [0xCB, xyz 0b10 (field3 b) o.code]
  | .bitSet b o => [0xCB, xyz 0b11 (field3 b) o.code]
  | .jp nn => opNN 0xC3 nn
  | .jpCond cc nn => opNN (xyz 0b11 (0#1 ++ cc.code) 0b010) nn
  | .jpHl => [0xE9]
  | .jr d => [0x18, d]
  | .jrCond cc d => [xyz 0b00 (1#1 ++ cc.code) 0b000, d]
  | .call nn => opNN 0xCD nn
  | .callCond cc nn => opNN (xyz 0b11 (0#1 ++ cc.code) 0b100) nn
  | .ret => [0xC9]
  | .retCond cc => [xyz 0b11 (0#1 ++ cc.code) 0b000]
  | .rst t => [xyz 0b11 (field3 t) 0b111]
  | .reti => [0xD9]
  | .prefixCb op2 => [0xCB, op2]

/-- The bytes of an instruction in fetch order. -/
def encode (i : Instr) : List Byte := i.form.encode

end Sys2Proof
end

