-- ==== Sys2Proof/Machine/Fetch.lean ====
section
/-! DEFINITION. Fetching an instruction (spec/30_encoding.md rule R100), and placing one where it will be fetched. -/

namespace Sys2Proof.Machine

/-- The check at the start of every step: a program counter above 0x00FF clears the boot shadow for good (rule R66). -/
def State.shadowCheck (s : State) : State := if s.pc.toNat > 0x00FF then { s with boot := false } else s

/-- The instruction whose bytes stand at the program counter. Reads have no side effect (rule R83), so reading a byte
that a short instruction does not have changes nothing; addresses wrap at 0xFFFF (rule R26). -/
def State.fetched (s : State) : Instr :=
  decodeInstr (s.busRead s.pc) (s.busRead (s.pc + 1)) (s.busRead (s.pc + 2))

/-- The program counter moved past the instruction that stands at it: the post-operand PC (rule R26). -/
def State.pastFetched (s : State) : State := s.setPc (s.pc + BitVec.ofNat 16 (decodeLength (s.busRead s.pc)))

/-- `CLK <- CLK + m` (rule R100). -/
def State.tick (s : State) : State := { s with clk := s.clk + s.m }

/-- The PPU advanced by the cost of the last instruction (rule R340). -/
def State.ppuAdvance (s : State) : State := { s with ppu := s.ppu.advance s.mem s.m }

/-! ## Placing an instruction -/

/-- A byte put into the storage that a fetch from `addr` reads, ROM and boot ROM included. -/
def State.placeByte (s : State) (addr : Word) (v : Byte) : State :=
  let a := addr.toNat
  if shadowed : s.boot = true ∧ a ≤ 0x00FF then
    { s with bootRom := s.bootRom.set a v (Nat.lt_succ_of_le shadowed.2) }
  else if a ≤ 0x7FFF then s.storeCell a v
  else s.busWrite addr v

/-- Bytes put at `addr` and on. -/
def State.placeBytes (s : State) (addr : Word) : List Byte → State
  | [] => s
  | v :: rest => (s.placeByte addr v).placeBytes (addr + 1) rest

/-- Whether a fetch from `addr` on reads these bytes. -/
def State.holdsBytes (s : State) (addr : Word) : List Byte → Bool
  | [] => true
  | v :: rest => s.busRead addr == v && s.holdsBytes (addr + 1) rest

/-- The state with bytes where the next step fetches, all else kept. The few addresses that hold no byte of their own
(0xFEA0 to 0xFEFF, 0xFF41, 0xFF44, 0xFF45, 0xFF46) cannot be given one; a program counter that runs into them is moved to
work RAM, 0xC000. -/
def State.withFetchBytes (s : State) (bytes : List Byte) : State :=
  let inPlace := { s.shadowCheck.placeBytes s.pc bytes with boot := s.boot }
  if inPlace.shadowCheck.holdsBytes s.pc bytes then inPlace
  else (s.setPc 0xC000).placeBytes 0xC000 bytes

end Sys2Proof.Machine
end

