-- ==== Sys2Proof/Machine/Cycle.lean ====
section
/-! DEFINITION. One CPU step (spec/30_encoding.md rule R100), and the output events of one machine step. -/

namespace Sys2Proof.Machine

/-- The state in which the fetched instruction's meaning runs: the shadow check made, PC past the whole instruction. -/
def State.readyToRun (s : State) : State := s.shadowCheck.pastFetched

/-- `step()` of the CPU: the boot-shadow check, the fetch, the instruction, and its cost added to CLK (rule R100). -/
def cpuStep (s : State) : Result :=
  match exec s.shadowCheck.fetched s.readyToRun with
  | .next t => .next t.tick
  | .fault r => .fault r
  | .refused r => .refused r

/-- The events on the output port during one machine step, in order (rule R332). -/
def stepEvents (s : State) : List SinkEvent :=
  match cpuStep s with
  | .next t => t.ppu.advanceEvents t.mem t.m
  | .fault _ => []
  | .refused _ => []

end Sys2Proof.Machine
end

