-- ==== Sys2Proof/Machine/Step.lean ====
section
/-! DEFINITION. One machine step (spec/50_ppu.md rule R340): a CPU step, then the PPU advanced by the cost that step set. -/

namespace Sys2Proof.Machine

/-- `machine_step()`. -/
def step (s : State) : Result :=
  match cpuStep s with
  | .next t => .next t.ppuAdvance
  | .fault r => .fault r
  | .refused r => .refused r

/-- The state with an instruction of the opcode table stored where `step` fetches its next instruction. -/
def State.withFetchWord (s : State) (nbits w : Nat) : State := s.withFetchBytes (tableBytes nbits w)

end Sys2Proof.Machine
end

