-- ==== Sys2Proof/Safety.lean ====
section
/-! DEFINITION. What a safe run of this machine is, in the terms the claims use: the invariant that every step keeps, when
a step completes, and which addresses store what is written to them. The hardware has no fault (rule R400), so a run is
safe when every step of it completes and the invariant holds throughout. -/

namespace Sys2Proof.Machine

/-! ## Addresses -/

/-- The address whose storage an address names: 0xE000 to 0xFDFF are a second name of 0xC000 to 0xDDFF (rule R68), and
every other address is its own. -/
def backing (addr : Word) : Word := if 0xE000 ≤ addr.toNat ∧ addr.toNat ≤ 0xFDFF then addr - 0x2000 else addr

/-- The addresses at which a write is read back, from 0x8000 to 0xFE9F and from 0xFF00 on, but for 0xFF41, 0xFF44, 0xFF45
and 0xFF46 (spec/95_test_vectors.md property Q5, rule R83). -/
def stores (addr : Word) : Bool :=
  (decide (0x8000 ≤ addr.toNat ∧ addr.toNat ≤ 0xFE9F) || decide (0xFF00 ≤ addr.toNat))
    && addr != 0xFF41#16 && addr != 0xFF44#16 && addr != 0xFF45#16 && addr != 0xFF46#16

/-- The keys of `Memory` that are a byte of one of the arrays of rule R37 which the bus reaches (rule R61): not the mirror,
not the hole 0xFEA0 to 0xFEFF, not the PPU registers. -/
def isStorageKey (key : Nat) : Bool :=
  decide (key ≤ 0xDFFF) || decide (0xFE00 ≤ key ∧ key ≤ 0xFE9F) || decide (0xFF00 ≤ key ∧ key ≤ 0xFF3F)
    || decide (0xFF48 ≤ key ∧ key ≤ 0xFFFF)

/-! ## The invariant -/

/-- Every pair of a memory is a byte of an array. -/
def Memory.onlyStorage (mem : Memory) : Bool := mem.all fun cell => isStorageKey cell.1

/-- The tile cache is the decoded tile data: `TILE[t][y][x] = VRAM[16t+2y][7-x] + 2*VRAM[16t+2y+1][7-x]` (rule R42). -/
def tilesMatch (mem : Memory) (tile : TileCache) : Prop :=
  ∀ (t : Fin 384) (y : Fin 8) (x : Fin 8),
    (tile[t][y][x]).toNat =
      ((vramByte mem (16 * t + 2 * y)).getLsbD (7 - x)).toNat
        + 2 * ((vramByte mem (16 * t + 2 * y + 1)).getLsbD (7 - x)).toNat

/-- The scanline state machine is where it can be between steps (rule R316): LY is 0 to 153, the mode is V-blank exactly
on lines 144 to 153, and the counter is below the threshold of its mode. -/
structure Ppu.OnSchedule (p : Ppu) : Prop where
  /-- `0 <= LY <= 153`. -/
  lineInRange : p.ly.toNat ≤ 153
  /-- `MODE = V-blank` if and only if `144 <= LY`. -/
  vBlankLines : p.mode = .vBlank ↔ 144 ≤ p.ly.toNat
  /-- `CNT` has not reached the threshold. -/
  belowThreshold : p.cnt < p.mode.threshold

/-- The invariant of the machine between two steps. -/
structure State.Inv (s : State) : Prop where
  /-- The memory is in its canonical form. -/
  canonical : s.mem.wf = true
  /-- The memory lists bytes of arrays only. -/
  onlyStorage : s.mem.onlyStorage = true
  /-- Rule R42. -/
  tiles : tilesMatch s.mem s.ppu.tile
  /-- Rule R316. -/
  schedule : s.ppu.OnSchedule

/-! ## Completion -/

/-- The step answers a next state. -/
def State.Completes (s : State) : Prop := ∃ t, step s = .next t

/-- A safe run of `n` steps: each completes from a state that meets the invariant. -/
def State.SafeRun : Nat → State → Prop
  | 0, s => s.Inv
  | n + 1, s => s.Inv ∧ ∃ t, step s = .next t ∧ t.SafeRun n

end Sys2Proof.Machine
end

