-- ==== Sys2Proof/Certificates/Slice0/Obligations.lean ====
section
/-! DEFINITION. The statements for the provers. The first part holds the terms they are written in: each restates, in
numbers and lists, what a rule of the spec says, apart from the definitions the model computes with. The second part holds
the statements, one `def Obligations.<Name> : Prop` each. A decision `D<n>` that a docstring names is the spec's own choice
(spec/92_eei_decisions.md) and not the source's: log entry 10. -/

namespace Sys2Proof.Claims

open Sys2Proof.Machine

/-! ## Encodings -/

/-- Whatever follows them, these bytes decode to `i`, and to the last of them. -/
def encodedAs (i : Instr) (bytes : List Byte) : Prop := ∀ rest, decode (bytes ++ rest) = .ok (i, rest)

/-- The first bytes of the formats `OP_N` and `OP_D`, and the prefix byte (rules R101 and R105). -/
def twoByteOpcodes : List Nat :=
  [0x06, 0x0E, 0x16, 0x18, 0x1E, 0x20, 0x26, 0x28, 0x2E, 0x30, 0x36, 0x38, 0x3E]
    ++ [0xC6, 0xCB, 0xCE, 0xD6, 0xDE, 0xE0, 0xE6, 0xE8, 0xEE, 0xF0, 0xF6, 0xF8, 0xFE]

/-- The first bytes of the format `OP_NN` (rules R101 and R105). -/
def threeByteOpcodes : List Nat :=
  [0x01, 0x08, 0x11, 0x21, 0x31, 0xC2, 0xC3, 0xC4, 0xCA, 0xCC, 0xCD, 0xD2, 0xD4, 0xDA, 0xDC, 0xEA, 0xFA]

/-- The length of an instruction by its first byte (rule R101). -/
def lengthOf (op : Byte) : Nat :=
  if op.toNat ∈ twoByteOpcodes then 2 else if op.toNat ∈ threeByteOpcodes then 3 else 1

/-! ## Flags -/

/-- F as a number: Z N Hf Cf in bits 7 to 4 (rule R23), bits 3 to 0 of the old F kept (rule R24). -/
def flagsByte (z n h c : Bool) (old : Byte) : Byte :=
  BitVec.ofNat 8 (128 * z.toNat + 64 * n.toNat + 32 * h.toNat + 16 * c.toNat + old.toNat % 16)

/-- `cond(cc)` on the bits of F (rules R23 and R240). -/
def holds (cc : Cond) (s : State) : Bool :=
  match cc with
  | .nz => !s.f.getLsbD 7
  | .z => s.f.getLsbD 7
  | .nc => !s.f.getLsbD 4
  | .c => s.f.getLsbD 4

/-- One cell of the table of rule R25. -/
inductive FlagCell where
  /-- "-". -/
  | kept
  /-- "0". -/
  | zero
  /-- "1". -/
  | one
  /-- "toggled". -/
  | toggled
  /-- "set": the value is in the instruction's own rule. -/
  | computed
  deriving DecidableEq, Repr

/-- What a cell says of a flag before and after. -/
def FlagCell.allows (cell : FlagCell) (before after : Bool) : Prop :=
  match cell with
  | .kept => after = before
  | .zero => after = false
  | .one => after = true
  | .toggled => after = !before
  | .computed => True

/-- One row of the table of rule R25. -/
structure FlagRow where
  /-- ZERO. -/
  z : FlagCell
  /-- SUBTRACT. -/
  n : FlagCell
  /-- HALF_CARRY. -/
  h : FlagCell
  /-- CARRY. -/
  c : FlagCell
  deriving DecidableEq, Repr

/-- The table of rule R25. A prefixed instruction has the row of its own operation (rules R107 and R110). -/
def flagRow (form : Form) : FlagRow :=
  match form with
  | .aluReg op _ | .aluAtHl op | .aluImm op _ =>
    match op with
    | .add | .adc => ⟨.computed, .zero, .computed, .computed⟩
    | .sub | .sbc | .cp => ⟨.computed, .one, .computed, .computed⟩
    | .and => ⟨.computed, .zero, .one, .zero⟩
    | .or | .xor => ⟨.computed, .zero, .zero, .zero⟩
  | .incReg _ | .incAtHl => ⟨.computed, .zero, .computed, .kept⟩
  | .decReg _ | .decAtHl => ⟨.computed, .one, .computed, .kept⟩
  | .addHl _ => ⟨.kept, .zero, .computed, .computed⟩
  | .addSpDisp _ | .ldHlSpDisp _ => ⟨.zero, .zero, .computed, .computed⟩
  | .rlca | .rrca | .rla | .rra => ⟨.zero, .zero, .zero, .computed⟩
  | .rot op _ => if op = .swap then ⟨.computed, .zero, .zero, .zero⟩ else ⟨.computed, .zero, .zero, .computed⟩
  | .bitTest _ _ => ⟨.computed, .zero, .one, .kept⟩
  | .daa => ⟨.computed, .kept, .zero, .computed⟩
  | .cpl => ⟨.kept, .one, .one, .kept⟩
  | .scf => ⟨.kept, .zero, .zero, .one⟩
  | .ccf => ⟨.kept, .zero, .zero, .toggled⟩
  | .pop q => if q = .af then ⟨.computed, .computed, .computed, .computed⟩ else ⟨.kept, .kept, .kept, .kept⟩
  | .prefixCb op2 =>
    if 0x30 ≤ op2.toNat ∧ op2.toNat < 0x38 then ⟨.computed, .zero, .zero, .zero⟩
    else if op2.toNat < 0x40 then ⟨.computed, .zero, .zero, .computed⟩
    else if op2.toNat < 0x80 then ⟨.computed, .zero, .one, .kept⟩
    else ⟨.kept, .kept, .kept, .kept⟩
  | .nop | .halt | .stop | .di | .ei | .unmapped _
  | .ldRegReg _ _ | .ldRegImm _ _ | .ldRegAtHl _ | .ldAtHlReg _ | .ldAtHlImm _ | .ldAAtBc | .ldAAtDe | .ldAtBcA
  | .ldAtDeA | .ldAAtNn _ | .ldAtNnA _ | .ldhAAtN _ | .ldhAtNA _ | .ldhAAtC | .ldhAtCA | .ldAtHlIncA | .ldAAtHlInc
  | .ldAtHlDecA | .ldAAtHlDec | .ldPairImm _ _ | .ldAtNnSp _ | .ldSpHl | .push _
  | .incPair _ | .decPair _ | .bitRes _ _ | .bitSet _ _
  | .jp _ | .jpCond _ _ | .jpHl | .jr _ | .jrCond _ _ | .call _ | .callCond _ _ | .ret | .retCond _ | .rst _ | .reti =>
    ⟨.kept, .kept, .kept, .kept⟩

/-! ## Registers -/

/-- The registers a program names, cell by cell, and SP (rule R20). -/
inductive Register where
  | a | f | b | c | d | e | h | l | sp
  deriving DecidableEq, Repr

/-- The value of a register, as a number. -/
def Register.value (r : Register) (s : State) : Nat :=
  match r with
  | .a => s.a.toNat
  | .f => s.f.toNat
  | .b => s.b.toNat
  | .c => s.c.toNat
  | .d => s.d.toNat
  | .e => s.e.toNat
  | .h => s.h.toNat
  | .l => s.l.toNat
  | .sp => s.sp.toNat

/-- The register of a register field. -/
def registerOf (r : Reg8) : Register :=
  match r with
  | .a => .a
  | .b => .b
  | .c => .c
  | .d => .d
  | .e => .e
  | .h => .h
  | .l => .l

/-- The registers of a pair (rule R20). -/
def cellsOf (rp : Pair) : List Register :=
  match rp with
  | .bc => [.b, .c]
  | .de => [.d, .e]
  | .hl => [.h, .l]
  | .sp => [.sp]

/-- The registers of a stack pair (rule R20). -/
def stackCellsOf (q : StackPair) : List Register :=
  match q with
  | .bc => [.b, .c]
  | .de => [.d, .e]
  | .hl => [.h, .l]
  | .af => [.a, .f]

/-- The register a prefixed instruction writes back to; `(HL)` is memory (rule R214). -/
def operandCells (o : Operand8) : List Register :=
  match o with
  | .reg r => [registerOf r]
  | .atHl => []

/-- The register the field `z` of a second byte names (rule R107). -/
def fieldCells (z : Nat) : List Register :=
  match z with
  | 0 => [.b]
  | 1 => [.c]
  | 2 => [.d]
  | 3 => [.e]
  | 4 => [.h]
  | 5 => [.l]
  | 6 => []
  | _ => [.a]

/-- The registers an instruction may write: its destination, the pointer its addressing mode steps, SP where it pushes or
pops, and F where rule R25 gives it a flag. -/
def written (form : Form) : List Register :=
  match form with
  | .ldRegReg dst _ | .ldRegImm dst _ | .ldRegAtHl dst => [registerOf dst]
  | .ldAAtBc | .ldAAtDe | .ldAAtNn _ | .ldhAAtN _ | .ldhAAtC => [.a]
  | .ldAtHlIncA | .ldAtHlDecA => [.h, .l]
  | .ldAAtHlInc | .ldAAtHlDec => [.a, .h, .l]
  | .ldPairImm rp _ | .incPair rp | .decPair rp => cellsOf rp
  | .ldSpHl => [.sp]
  | .ldHlSpDisp _ | .addHl _ => [.h, .l, .f]
  | .push _ => [.sp]
  | .pop q => .sp :: stackCellsOf q
  | .aluReg op _ | .aluAtHl op | .aluImm op _ => if op = .cp then [.f] else [.a, .f]
  | .incReg r | .decReg r => [registerOf r, .f]
  | .incAtHl | .decAtHl => [.f]
  | .daa | .cpl | .rlca | .rrca | .rla | .rra => [.a, .f]
  | .scf | .ccf => [.f]
  | .addSpDisp _ => [.sp, .f]
  | .rot _ o => .f :: operandCells o
  | .bitTest _ _ => [.f]
  | .bitRes _ o | .bitSet _ o => operandCells o
  | .call _ | .callCond _ _ | .rst _ | .ret | .retCond _ | .reti => [.sp]
  | .prefixCb op2 =>
    if op2.toNat < 0x40 then .f :: fieldCells (op2.toNat % 8)
    else if op2.toNat < 0x80 then [.f]
    else fieldCells (op2.toNat % 8)
  | .nop | .halt | .stop | .di | .ei | .unmapped _ => []
  | .ldAtHlReg _ | .ldAtHlImm _ | .ldAtBcA | .ldAtDeA | .ldAtNnA _ | .ldhAtNA _ | .ldhAtCA | .ldAtNnSp _ => []
  | .jp _ | .jpCond _ _ | .jpHl | .jr _ | .jrCond _ _ => []

/-- The forms that move PC themselves: jumps, calls, returns and restarts (spec/45_control.md). -/
def transfers (form : Form) : Bool :=
  match form with
  | .jp _ | .jpCond _ _ | .jpHl | .jr _ | .jrCond _ _ | .call _ | .callCond _ _ | .ret | .retCond _ | .rst _ | .reti => true
  | .nop | .halt | .stop | .di | .ei | .unmapped _
  | .ldRegReg _ _ | .ldRegImm _ _ | .ldRegAtHl _ | .ldAtHlReg _ | .ldAtHlImm _ | .ldAAtBc | .ldAAtDe | .ldAtBcA
  | .ldAtDeA | .ldAAtNn _ | .ldAtNnA _ | .ldhAAtN _ | .ldhAtNA _ | .ldhAAtC | .ldhAtCA | .ldAtHlIncA | .ldAAtHlInc
  | .ldAtHlDecA | .ldAAtHlDec | .ldPairImm _ _ | .ldAtNnSp _ | .ldSpHl | .push _
  | .ldHlSpDisp _ | .pop _ | .aluReg _ _ | .aluAtHl _ | .aluImm _ _ | .incReg _ | .incAtHl | .decReg _ | .decAtHl | .daa
  | .cpl | .scf | .ccf | .addHl _ | .incPair _ | .decPair _ | .addSpDisp _ | .rlca | .rrca | .rla | .rra | .rot _ _
  | .bitTest _ _ | .bitRes _ _ | .bitSet _ _ | .prefixCb _ => false

/-- The condition a form tests, if it has one. -/
def conditionOf (form : Form) : Option Cond :=
  match form with
  | .jpCond cc _ | .jrCond cc _ | .callCond cc _ | .retCond cc => some cc
  | .nop | .halt | .stop | .di | .ei | .unmapped _
  | .ldRegReg _ _ | .ldRegImm _ _ | .ldRegAtHl _ | .ldAtHlReg _ | .ldAtHlImm _ | .ldAAtBc | .ldAAtDe | .ldAtBcA
  | .ldAtDeA | .ldAAtNn _ | .ldAtNnA _ | .ldhAAtN _ | .ldhAtNA _ | .ldhAAtC | .ldhAtCA | .ldAtHlIncA | .ldAAtHlInc
  | .ldAtHlDecA | .ldAAtHlDec | .ldPairImm _ _ | .ldAtNnSp _ | .ldSpHl | .push _
  | .ldHlSpDisp _ | .pop _ | .aluReg _ _ | .aluAtHl _ | .aluImm _ _ | .incReg _ | .incAtHl | .decReg _ | .decAtHl | .daa
  | .cpl | .scf | .ccf | .addHl _ | .incPair _ | .decPair _ | .addSpDisp _ | .rlca | .rrca | .rla | .rra | .rot _ _
  | .bitTest _ _ | .bitRes _ _ | .bitSet _ _ | .prefixCb _
  | .jp _ | .jpHl | .jr _ | .call _ | .ret | .rst _ | .reti => none

/-! ## Memory -/

/-- The address a prefixed instruction writes back to, if its operand is in memory (rule R214). -/
def operandAddress (o : Operand8) (s : State) : List Word :=
  match o with
  | .reg _ => []
  | .atHl => [s.hl]

/-- The addresses a form stores to, computed from the state before it (the operand addresses of its meaning). -/
def storedAt (form : Form) (s : State) : List Word :=
  match form with
  | .ldAtHlReg _ | .ldAtHlImm _ | .incAtHl | .decAtHl | .ldAtHlIncA | .ldAtHlDecA => [s.hl]
  | .ldAtBcA => [s.bc]
  | .ldAtDeA => [s.de]
  | .ldAtNnA nn => [nn]
  | .ldhAtNA n => [pageAddr n]
  | .ldhAtCA => [pageAddr s.c]
  | .ldAtNnSp nn => [nn, nn + 1]
  | .push _ | .call _ | .rst _ => [s.sp - 2, s.sp - 2 + 1]
  | .callCond cc _ => if holds cc s then [s.sp - 2, s.sp - 2 + 1] else []
  | .rot _ o | .bitRes _ o | .bitSet _ o => operandAddress o s
  | .prefixCb op2 => if op2.toNat % 8 = 6 ∧ ¬(0x40 ≤ op2.toNat ∧ op2.toNat < 0x80) then [s.hl] else []
  | .nop | .halt | .stop | .di | .ei | .unmapped _ => []
  | .ldRegReg _ _ | .ldRegImm _ _ | .ldRegAtHl _ | .ldAAtBc | .ldAAtDe | .ldAAtNn _ | .ldhAAtN _ | .ldhAAtC | .ldAAtHlInc
  | .ldAAtHlDec | .ldPairImm _ _ | .ldSpHl | .ldHlSpDisp _ | .pop _ => []
  | .aluReg _ _ | .aluAtHl _ | .aluImm _ _ | .incReg _ | .decReg _ | .daa | .cpl | .scf | .ccf => []
  | .addHl _ | .incPair _ | .decPair _ | .addSpDisp _ | .rlca | .rrca | .rla | .rra | .bitTest _ _ => []
  | .jp _ | .jpCond _ _ | .jpHl | .jr _ | .jrCond _ _ | .ret | .retCond _ | .reti => []

/-- A word pushed: SP two lower, the low byte there and the high byte above it (rules R27 and R164). -/
def pushed (hi lo : Byte) (s : State) : State :=
  ({ s with sp := s.sp - 2 }.busWrite (s.sp - 2) lo).busWrite (s.sp - 1) hi

/-! ## Costs -/

/-- `MCYCLES` (rule R470). -/
def mcycles (form : Form) (s : State) : Nat :=
  match form with
  | .nop | .halt | .stop | .di | .ei | .unmapped _ => 1
  | .ldRegReg _ _ => 1
  | .ldRegImm _ _ => 2
  | .ldRegAtHl _ | .ldAtHlReg _ => 2
  | .ldAtHlImm _ => 3
  | .ldAAtBc | .ldAAtDe | .ldAtBcA | .ldAtDeA => 2
  | .ldAtHlIncA | .ldAAtHlInc | .ldAtHlDecA | .ldAAtHlDec => 2
  | .ldAAtNn _ | .ldAtNnA _ => 4
  | .ldhAAtN _ | .ldhAtNA _ => 3
  | .ldhAAtC | .ldhAtCA => 2
  | .ldPairImm _ _ => 3
  | .ldAtNnSp _ => 5
  | .ldSpHl => 2
  | .ldHlSpDisp _ => 3
  | .push _ => 4
  | .pop _ => 3
  | .aluReg _ _ => 1
  | .aluAtHl _ | .aluImm _ _ => 2
  | .incReg _ | .decReg _ => 1
  | .incAtHl | .decAtHl => 3
  | .daa | .cpl | .scf | .ccf => 1
  | .rlca | .rrca | .rla | .rra => 1
  | .addHl _ | .incPair _ | .decPair _ => 2
  | .addSpDisp _ => 4
  | .jp _ => 4
  | .jpCond cc _ => if holds cc s then 4 else 3
  | .jpHl => 1
  | .jr _ => 3
  | .jrCond cc _ => if holds cc s then 3 else 2
  | .call _ => 6
  | .callCond cc _ => if holds cc s then 6 else 3
  | .ret => 4
  | .retCond cc => if holds cc s then 5 else 2
  | .reti => 4
  | .rst _ => 4
  | .rot _ o | .bitRes _ o | .bitSet _ o => if o = .atHl then 4 else 2
  | .bitTest _ o => if o = .atHl then 3 else 2
  | .prefixCb op2 =>
    if op2.toNat % 8 ≠ 6 then 2 else if 0x40 ≤ op2.toNat ∧ op2.toNat < 0x80 then 3 else 4

/-! ## Arithmetic -/

/-- The operation, the operand value and the cost of an accumulator instruction (rule R175). -/
def aluOperand (form : Form) (s : State) : Option (AluOp × Byte × Nat) :=
  match form with
  | .aluReg op r => some (op, s.reg8 r, 1)
  | .aluAtHl op => some (op, s.busRead s.hl, 2)
  | .aluImm op n => some (op, n, 2)
  | .nop | .halt | .stop | .di | .ei | .unmapped _
  | .ldRegReg _ _ | .ldRegImm _ _ | .ldRegAtHl _ | .ldAtHlReg _ | .ldAtHlImm _ | .ldAAtBc | .ldAAtDe | .ldAtBcA
  | .ldAtDeA | .ldAAtNn _ | .ldAtNnA _ | .ldhAAtN _ | .ldhAtNA _ | .ldhAAtC | .ldhAtCA | .ldAtHlIncA | .ldAAtHlInc
  | .ldAtHlDecA | .ldAAtHlDec | .ldPairImm _ _ | .ldAtNnSp _ | .ldSpHl | .push _
  | .ldHlSpDisp _ | .pop _ | .incReg _ | .incAtHl | .decReg _ | .decAtHl | .daa | .cpl | .scf | .ccf | .addHl _
  | .incPair _ | .decPair _ | .addSpDisp _ | .rlca | .rrca | .rla | .rra | .rot _ _ | .bitTest _ _ | .bitRes _ _
  | .bitSet _ _ | .prefixCb _
  | .jp _ | .jpCond _ _ | .jpHl | .jr _ | .jrCond _ _ | .call _ | .callCond _ _ | .ret | .retCond _ | .rst _ | .reti => none

/-- DAA after an addition, before narrowing (rule R188, N = 0). -/
def daaSum (a : Nat) (h c : Bool) : Nat :=
  let low := if h = true ∨ a % 16 > 9 then a + 6 else a
  if c = true ∨ low > 0x9F then low + 0x60 else low

/-- DAA after a subtraction (rule R188, N = 1), on numbers modulo 256: 250 is -0x06 and 160 is -0x60. -/
def daaDifference (a : Nat) (h c : Bool) : Nat :=
  ((if h then a + 250 else a) + (if c then 160 else 0)) % 256

/-- Both nibbles are decimal digits. -/
def isBcd (v : Byte) : Bool := decide (v.toNat % 16 ≤ 9) && decide (v.toNat / 16 ≤ 9)

/-- The number two decimal digits stand for. -/
def bcdValue (v : Byte) : Nat := 10 * (v.toNat / 16) + v.toNat % 16

/-- The result of a rotate or shift as a number (rules R215 to R222). -/
def rotated (op : RotOp) (v cin : Nat) : Nat :=
  match op with
  | .rlc => (2 * v + v / 128) % 256
  | .rrc => v / 2 + 128 * (v % 2)
  | .rl => (2 * v + cin) % 256
  | .rr => v / 2 + 128 * cin
  | .sla => 2 * v % 256
  | .sra => v / 2 + 128 * (v / 128)
  | .swap => v % 16 * 16 + v / 16
  | .srl => v / 2

/-- The bit a rotate or shift moves out: bit 7 to the left, bit 0 to the right, none for SWAP (rules R215 to R222). -/
def shiftedOut (op : RotOp) (v : Nat) : Bool :=
  match op with
  | .rlc | .rl | .sla => decide (128 ≤ v)
  | .rrc | .rr | .sra | .srl => decide (v % 2 = 1)
  | .swap => false

/-! ## Picture -/

/-- The shade of pixel `i` of line LY, from video RAM alone (rules R325, R326 and R42). -/
def shadeAt (p : Ppu) (mem : Memory) (i : Nat) : Nat :=
  let yy := (p.ly.toNat + p.scy.toNat) % 256
  let xx := p.scx.toNat + i
  let map := if p.lcdc.getLsbD 3 then 0x1C00 else 0x1800
  let idx := (mem.read (0x8000 + map + yy / 8 * 32 + xx / 8 % 32)).toNat
  let t := if p.lcdc.getLsbD 4 ∨ 128 ≤ idx then idx else idx + 256
  let row := 0x8000 + 16 * t + 2 * (yy % 8)
  ((mem.read row).getLsbD (7 - xx % 8)).toNat + 2 * ((mem.read (row + 1)).getLsbD (7 - xx % 8)).toNat

/-- `k` calls of `advance(1)`. -/
def ticked (mem : Memory) : Nat → Ppu → Ppu
  | 0, p => p
  | k + 1, p => ticked mem k (p.advance mem 1)

/-- Two states that differ in nothing a program can observe: IME, the latches, `m`, CLK, the frame buffer and the output
(rule R44), and the host's own bit (log entry 2). -/
def sameToProgram (s t : State) : Prop :=
  t = { s with
    ime := t.ime
    halted := t.halted
    stopped := t.stopped
    m := t.m
    clk := t.clk
    romLoaded := t.romLoaded
    ppu := { s.ppu with fb := t.ppu.fb, out := t.ppu.out, frames := t.ppu.frames } }

end Sys2Proof.Claims

open Sys2Proof Sys2Proof.Machine Sys2Proof.Claims

/-! ## Encoding -/

/-- Decoding undoes encoding, for every well-formed instruction and every operand value (rules R101 to R107 and
each instruction's Encoding clause): the encoder is written on the operand fields, the decoder on the opcode
tables. Decided by the spec itself: the opcode bytes by D2. -/
def Obligations.DecodeUndoesEncode : Prop :=
  ∀ (i : Instr) (rest : List Byte), i.wellFormed = true → decode (encode i ++ rest) = .ok (i, rest)

/-- Encoding undoes decoding: a byte string has one reading, and what the decoder answers is well formed (rule
R113). Decided by the spec itself: the opcode bytes by D2. -/
def Obligations.EncodeUndoesDecode : Prop :=
  ∀ (bytes rest : List Byte) (i : Instr), decode bytes = .ok (i, rest) → i.wellFormed = true ∧ encode i ++ rest = bytes

/-- Words written out from rules R105 and R107, one or two of each family. 0x3E and 0x47 are the two the source
itself gives. Decided by the spec itself: the opcode bytes by D2. -/
def Obligations.SpecWordsDecode : Prop :=
  decode [0x3E, 0x42] = .ok (.ldAN 0x42, []) ∧ decode [0x47] = .ok (.ldBA, []) ∧
  decode [0x00] = .ok (.nop, []) ∧ decode [0x31, 0xFE, 0xFF] = .ok (.ldSpNn 0xFFFE, []) ∧
  decode [0xF5] = .ok (.pushAf, []) ∧ decode [0x96] = .ok (.subAtHl, []) ∧ decode [0xCE, 0x01] = .ok (.adcAN 0x01, []) ∧
  decode [0x27] = .ok (.daa, []) ∧ decode [0x39] = .ok (.addHlSp, []) ∧ decode [0xE8, 0x08] = .ok (.addSpD8 0x08, []) ∧
  decode [0x1F] = .ok (.rra, []) ∧ decode [0xCB, 0x37] = .ok (.swapA, []) ∧ decode [0xCB, 0x7E] = .ok (.bit7AtHl, []) ∧
  decode [0xCB, 0x87] = .ok (.res0A, []) ∧ decode [0xC3, 0x50, 0x01] = .ok (.jpNn 0x0150, []) ∧
  decode [0x20, 0xFB] = .ok (.jrNzD8 0xFB, []) ∧ decode [0xFF] = .ok (.rst38, []) ∧ decode [0xED] = .ok (.unmappedED, []) ∧
  decode [0x76] = .ok (.halt, [])

/-- Every byte string of three bytes or more decodes, to a well-formed instruction whose length its first byte
alone decides (rules R101 and R113). Decided by the spec itself: the opcode bytes by D2, and that STOP is one byte by
D10. -/
def Obligations.FirstByteDecidesLength : Prop :=
  ∀ (b0 b1 b2 : Byte) (rest : List Byte),
    ∃ i, i.wellFormed = true ∧ decode (b0 :: b1 :: b2 :: rest) = .ok (i, (b0 :: b1 :: b2 :: rest).drop (lengthOf b0))

/-! ## The step -/

/-- A step runs the instruction that stands at PC (rules R100 and R340): the boot shadow is checked, PC goes past
the instruction's bytes, the instruction runs, its cost is added to CLK, and the PPU advances by it. -/
def Obligations.StepRunsDecodedInstruction : Prop :=
  ∀ (s t : State) (i : Instr) (rest : List Byte),
    let u := { s with boot := s.boot && decide (s.pc.toNat ≤ 0xFF) }
    decode [u.busRead u.pc, u.busRead (u.pc + 1), u.busRead (u.pc + 2)] = .ok (i, rest) →
    exec i { u with pc := s.pc + BitVec.ofNat 16 (3 - rest.length) } = .next t →
    step s = .next { t with clk := t.clk + t.m, ppu := t.ppu.advance t.mem t.m }

/-- No step stops (rule R400): from every state whatever there is a next one, and CLK grows by the instruction's cost
(R411). Decided by the spec itself: that the cost is 1 to 6 by the cost table of D3, and that CLK is an unbounded
number by D23. -/
def Obligations.EveryStepCompletes : Prop :=
  ∀ s : State, ∃ t, step s = .next t ∧ t.clk = s.clk + t.m ∧ 1 ≤ t.m ∧ t.m ≤ 6

/-- Every instruction completes in every state, and its cost is the one the table of rule R470 gives, taken or not
taken for a conditional transfer. The table is decision D3 of the spec. -/
def Obligations.EveryInstructionCompletesAtItsCost : Prop :=
  ∀ (i : Instr) (s : State), ∃ t, exec i s = .next t ∧ t.m = mcycles i.form s

/-- An instruction that is no control transfer, or whose condition is false, leaves PC at the instruction after it
(rules R26 and R104, property Q1). Decided by the spec itself: the opcode bytes by D2, and that STOP is one byte by
D10. -/
def Obligations.UntakenInstructionAdvancesPcByLength : Prop :=
  ∀ (s t : State) (i : Instr) (rest : List Byte),
    let u := { s with boot := s.boot && decide (s.pc.toNat ≤ 0xFF) }
    decode [u.busRead u.pc, u.busRead (u.pc + 1), u.busRead (u.pc + 2)] = .ok (i, rest) →
    (transfers i.form = false ∨ ∃ cc, conditionOf i.form = some cc ∧ holds cc s = false) →
    step s = .next t → t.pc = s.pc + BitVec.ofNat 16 (encode i).length

/-- The CPU and the PPU never act at once (rule R340): an instruction leaves MODE, CNT, LY (which drops writes, R304),
the frame buffer and the output alone, and the PPU's advance leaves everything else alone, registers of the PPU and
tile cache included. Decided by the spec itself: that an instruction is one event for the PPU by D33, and OUT and
FRAMES by D21. -/
def Obligations.CpuAndPpuDoNotOverlap : Prop :=
  (∀ (i : Instr) (s t : State), exec i s = .next t →
    t.ppu.mode = s.ppu.mode ∧ t.ppu.cnt = s.ppu.cnt ∧ t.ppu.ly = s.ppu.ly ∧ t.ppu.fb = s.ppu.fb ∧
    t.ppu.out = s.ppu.out ∧ t.ppu.frames = s.ppu.frames) ∧
  (∀ s t u : State, cpuStep s = .next u → step s = .next t →
    t = { u with
      ppu := { u.ppu with
        mode := t.ppu.mode
        cnt := t.ppu.cnt
        ly := t.ppu.ly
        fb := t.ppu.fb
        out := t.ppu.out
        frames := t.ppu.frames } })

/-! ## Frames -/

/-- A flag changes only where the table of rule R25 lets it, and to the value the table forces. The table is derived
in the spec from the instructions' own rules. Decided by the spec itself: the rows of ADD HL by D6, of ADD SP and LD
HL,SP+d by D7 and of DAA by D8, and CARRY of AND and SWAP by D9. -/
def Obligations.FlagsChangeOnlyAsTabled : Prop :=
  ∀ (i : Instr) (s t : State), exec i s = .next t →
    (flagRow i.form).z.allows (s.f.getLsbD 7) (t.f.getLsbD 7) ∧ (flagRow i.form).n.allows (s.f.getLsbD 6) (t.f.getLsbD 6) ∧
    (flagRow i.form).h.allows (s.f.getLsbD 5) (t.f.getLsbD 5) ∧ (flagRow i.form).c.allows (s.f.getLsbD 4) (t.f.getLsbD 4)

/-- Bits 3 to 0 of F are written by `POP AF` only, which loads all eight bits of F (rule R24, decision D4 of the
spec). -/
def Obligations.LowBitsOfFlagsWrittenByPopAfOnly : Prop :=
  ∀ (i : Instr) (s t : State), exec i s = .next t →
    (i.form ≠ .pop .af → t.f.toNat % 16 = s.f.toNat % 16) ∧ (i.form = .pop .af → t.f = s.busRead s.sp)

/-- Every register keeps its value but those the instruction's rule writes. -/
def Obligations.RegistersChangeOnlyAsRuled : Prop :=
  ∀ (i : Instr) (s t : State), exec i s = .next t → ∀ r : Register, r ∉ written i.form → r.value t = r.value s

/-- IME is written by DI and EI only, the two latches are set by HALT and STOP only and never cleared (rules R30
and R31); no instruction writes BOOT, the boot ROM, CLK or the host's bit. -/
def Obligations.ControlStateChangesOnlyAsRuled : Prop :=
  ∀ (i : Instr) (s t : State), exec i s = .next t →
    (i.form = .di → t.ime = false) ∧ (i.form = .ei → t.ime = true) ∧
    (i.form ≠ .di → i.form ≠ .ei → t.ime = s.ime) ∧
    t.halted = (s.halted || decide (i.form = .halt)) ∧ t.stopped = (s.stopped || decide (i.form = .stop)) ∧
    t.boot = s.boot ∧ t.bootRom = s.bootRom ∧ t.clk = s.clk ∧ t.romLoaded = s.romLoaded

/-- Every address reads as before but those an instruction stores to, and an instruction that stores nothing
leaves all of memory and the PPU as they were. Two addresses are the same byte when they name the same storage
(rule R68). -/
def Obligations.MemoryChangesOnlyWhereStored : Prop :=
  ∀ (i : Instr) (s t : State), exec i s = .next t →
    (∀ addr, (∀ a ∈ storedAt i.form s, backing addr ≠ backing a) → t.busRead addr = s.busRead addr) ∧
    (storedAt i.form s = [] → t.mem = s.mem ∧ t.ppu = s.ppu)

/-! ## Reset and the invariant -/

/-- The state after reset, value by value (rules R46 and R450). The registers, BOOT and MODE are the source's; the
other values are the spec's own decision D17, and the boot ROM is the open parameter of log entry 1. -/
def Obligations.ResetValues : Prop :=
  let s := State.reset
  (s.af = 0 ∧ s.bc = 0 ∧ s.de = 0 ∧ s.hl = 0 ∧ s.sp = 0 ∧ s.pc = 0) ∧
  (s.ime = false ∧ s.halted = false ∧ s.stopped = false ∧ s.m = 0 ∧ s.clk = 0 ∧ s.boot = true) ∧
  (∀ i : Fin 256, s.bootRom[i] = Config.bootRom i) ∧ (∀ key, s.mem.read key = 0) ∧
  (s.ppu.lcdc = 0 ∧ s.ppu.scy = 0 ∧ s.ppu.scx = 0 ∧ s.ppu.ly = 0 ∧ packPalette s.ppu.pal = 0) ∧
  s.ppu.mode = .oamSearch ∧ s.ppu.cnt = 0 ∧ s.ppu.frames = 0 ∧
  (∀ (t : Fin 384) (y x : Fin 8), s.ppu.tile[t][y][x] = 0) ∧
  (∀ (y : Fin 144) (x : Fin 160), s.ppu.fb[y][x] = 0 ∧ s.ppu.out[y][x] = 0)

/-- The state after reset meets the invariant. Its clauses on the form of the memory, canonical and made of bytes of
arrays only, are the model's own (log entry 6); the tile cache is rule R42 and the schedule is rule R316, with the
counter below its threshold. Decided by the spec itself: the reset values that it rests on (rule R46), memory of zeros
and LY and CNT of 0, by D17; MODE is the source's. -/
def Obligations.ResetHasInvariant : Prop := State.reset.Inv

/-- Every step keeps the invariant: the memory in its canonical form and made of bytes of arrays only (the model's own
form, log entry 6), the tile cache equal to the decoded tile data (rule R42), and the scanline state machine on its
schedule (rule R316). Decided by the spec itself: that the counter stays below the threshold of its mode, since
reaching it restarts the counter at 0, by D16. -/
def Obligations.EveryStepKeepsInvariant : Prop := ∀ s t : State, s.Inv → step s = .next t → t.Inv

/-- From a state that meets the invariant every run of any length is safe: no step of it stops (rules R400 and R458),
and every state on it meets the invariant (rules R42 and R316). The invariant's clauses on the form of the memory are
the model's own (log entry 6). Decided by the spec itself: that the counter stays below the threshold of its mode by
D16. -/
def Obligations.EveryRunIsSafe : Prop := ∀ (n : Nat) (s : State), s.Inv → s.SafeRun n

/-! ## The bus -/

/-- The boot shadow: a step clears it exactly when PC is above 0x00FF at its start, and nothing sets it again
(rule R66); while it is on, 0x0000 to 0x00FF read the boot ROM, and ROM bank 0 after it (rule R67). -/
def Obligations.BootShadow : Prop :=
  (∀ s t : State, step s = .next t → t.boot = (s.boot && decide (s.pc.toNat ≤ 0xFF))) ∧
  (∀ (s : State) (a : Word), (low : a.toNat < 256) →
    (s.boot = true → s.busRead a = s.bootRom[a.toNat]) ∧ (s.boot = false → s.busRead a = s.mem.read a.toNat)) ∧
  (∀ (s : State) (a : Word), 256 ≤ a.toNat → a.toNat < 0x8000 → s.busRead a = s.mem.read a.toNat)

/-- A write to 0x0000 to 0x7FFF changes nothing (rule R70, decision D11 of the spec), so no step changes the boot
ROM or a cartridge byte. -/
def Obligations.RomNeverChanges : Prop :=
  (∀ (s : State) (a : Word) (v : Byte), a.toNat ≤ 0x7FFF → s.busWrite a v = s) ∧
  (∀ s t : State, step s = .next t →
    t.bootRom = s.bootRom ∧ ∀ key, key < 0x8000 → t.mem.read key = s.mem.read key)

/-- The mirror (rule R68): 0xE000 to 0xFDFF read what 0xC000 to 0xDDFF read, and a write through either is the
same write. -/
def Obligations.WorkRamMirror : Prop :=
  ∀ (s : State) (a : Word) (v : Byte), 0xE000 ≤ a.toNat → a.toNat ≤ 0xFDFF →
    s.busRead a = s.busRead (a - 0x2000) ∧ s.busWrite a v = s.busWrite (a - 0x2000) v ∧
    (s.busWrite a v).busRead (a - 0x2000) = v ∧ (s.busWrite (a - 0x2000) v).busRead a = v

/-- A read after a write, for every two addresses (property Q5, rules R83 and R85): the byte written where the address
stores it, no change at all where it does not, and every other byte as before. That LY drops a write is the source's
(R304); decided by the spec itself: that nothing changes on a write to ROM by D11, to 0xFEA0 to 0xFEFF by D12, and to
0xFF41, 0xFF45 and 0xFF46 by D13, and that LCDC keeps the whole byte by D14. -/
def Obligations.ReadAfterWrite : Prop :=
  ∀ (s : State) (a b : Word) (v : Byte),
    (stores a = true → backing b = backing a → (s.busWrite a v).busRead b = v) ∧
    (backing b ≠ backing a → (s.busWrite a v).busRead b = s.busRead b) ∧
    (stores a = false → s.busWrite a v = s)

/-- Words are little-endian and wrap from 0xFFFF to 0x0000 (rules R64 and R65). The order of the two writes is
decision D25 of the spec. -/
def Obligations.WordsAreLittleEndian : Prop :=
  ∀ (s : State) (a v : Word),
    (s.busReadWord a).toNat =
      (s.busRead a).toNat + 256 * (s.busRead (BitVec.ofNat 16 ((a.toNat + 1) % 65536))).toNat ∧
    s.busWriteWord a v =
      (s.busWrite a (BitVec.ofNat 8 (v.toNat % 256))).busWrite (BitVec.ofNat 16 ((a.toNat + 1) % 65536))
        (BitVec.ofNat 8 (v.toNat / 256))

/-- A write to tile data stores the byte and then decodes its row again; no other row changes, and a write to the
tile maps decodes nothing (rules R72 and R320). -/
def Obligations.VideoRamWriteDecodesItsRow : Prop :=
  ∀ (s : State) (a : Word) (v : Byte), 0x8000 ≤ a.toNat → a.toNat ≤ 0x9FFF →
    let r := a.toNat - 0x8000
    let t := s.busWrite a v
    t.mem = s.mem.write a.toNat v ∧
    ∀ (k : Fin 384) (y x : Fin 8),
      (r ≤ 0x17FF ∧ k.val = r / 16 ∧ y.val = r / 2 % 8 →
        (t.ppu.tile[k][y][x]).toNat =
          ((t.mem.read (0x8000 + r / 2 * 2)).getLsbD (7 - x)).toNat
            + 2 * ((t.mem.read (0x8000 + r / 2 * 2 + 1)).getLsbD (7 - x)).toNat) ∧
      (¬(r ≤ 0x17FF ∧ k.val = r / 16 ∧ y.val = r / 2 % 8) → t.ppu.tile[k][y][x] = s.ppu.tile[k][y][x])

/-- `loadROM` (rule R69): before the first step and once, it puts the first 32768 bytes of the image into the
cartridge ROM, zeros after the end of a short image, and leaves every other byte and the invariant alone. The
invariant's form of the memory is the model's own, log entry 6. A second or a late call is refused: the model's
choice, log entry 2. -/
def Obligations.LoadRomFillsCartridge : Prop :=
  ∀ (s : State) (image : List Byte),
    (s.romLoaded = false → s.clk = 0 → ∃ t, loadROM image s = .next t ∧
      t = { s with mem := t.mem, romLoaded := true } ∧
      (∀ key, key < 0x8000 → t.mem.read key = image.getD key 0) ∧
      (∀ key, 0x8000 ≤ key → t.mem.read key = s.mem.read key) ∧ (s.Inv → t.Inv)) ∧
    ((s.romLoaded = true ∨ s.clk ≠ 0) → loadROM image s = .refused .romLoadedTwiceOrLate)

/-- Two memories in the canonical form that read alike are the same list, so equal memories are equal data. The form
is the model's own, log entry 6. -/
def Obligations.CanonicalMemoriesThatReadAlikeAreEqual : Prop :=
  ∀ m n : Memory, m.wf = true → n.wf = true → (∀ key, m.read key = n.read key) → m = n

/-- Cells and pairs (rule R21): a pair written splits into its cells, cells written are read back through the pair,
and every write leaves all other cells and pairs alone, F, SP and PC included: a write to A leaves F, one to the flags
leaves A, and one to AF leaves B, C, D, E, H, L and SP. -/
def Obligations.CellsAndPairs : Prop :=
  (∀ (s : State) (v : Word),
    ((s.setBc v).b.toNat = v.toNat / 256 ∧ (s.setBc v).c.toNat = v.toNat % 256) ∧
    ((s.setDe v).d.toNat = v.toNat / 256 ∧ (s.setDe v).e.toNat = v.toNat % 256) ∧
    ((s.setHl v).h.toNat = v.toNat / 256 ∧ (s.setHl v).l.toNat = v.toNat % 256) ∧
    ((s.setAf v).a.toNat = v.toNat / 256 ∧ (s.setAf v).f.toNat = v.toNat % 256)) ∧
  (∀ s : State,
    s.bc.toNat = 256 * s.b.toNat + s.c.toNat ∧ s.de.toNat = 256 * s.d.toNat + s.e.toNat ∧
    s.hl.toNat = 256 * s.h.toNat + s.l.toNat ∧ s.af.toNat = 256 * s.a.toNat + s.f.toNat) ∧
  (∀ (s : State) (v : Word),
    s.setBc v = { s with b := (s.setBc v).b, c := (s.setBc v).c } ∧
    s.setDe v = { s with d := (s.setDe v).d, e := (s.setDe v).e } ∧
    s.setHl v = { s with h := (s.setHl v).h, l := (s.setHl v).l } ∧
    s.setAf v = { s with a := (s.setAf v).a, f := (s.setAf v).f } ∧
    s.setSp v = { s with sp := v } ∧ s.setPc v = { s with pc := v }) ∧
  (∀ (s : State) (rp rp' : Pair) (v : Word), (s.setPair rp v).pair rp' = if rp' = rp then v else s.pair rp') ∧
  (∀ (s : State) (rp : Pair) (v : Word), let t := s.setPair rp v
    t = { s with b := t.b, c := t.c, d := t.d, e := t.e, h := t.h, l := t.l, sp := t.sp }) ∧
  (∀ (s : State) (r r' : Reg8) (v : Byte), (s.setReg8 r v).reg8 r' = if r' = r then v else s.reg8 r') ∧
  (∀ (s : State) (r : Reg8) (v : Byte), let t := s.setReg8 r v
    t = { s with a := t.a, b := t.b, c := t.c, d := t.d, e := t.e, h := t.h, l := t.l }) ∧
  (∀ (s : State) (z n h c : Bool), s.setFlags z n h c = { s with f := (s.setFlags z n h c).f })

/-! ## 8-bit loads -/

/-- `LD r,r'`, `LD r,n`, `LD r,(HL)`, `LD (HL),r` and `LD (HL),n` (rules R141 to R145). Decided by the spec
itself: the opcode bytes by D2 and the cost `m` by D3. -/
def Obligations.LoadsOfRegistersAndThroughHl : Prop :=
  ∀ (i : Instr) (s : State) (dst src : Reg8) (n : Byte),
    (i.form = .ldRegReg dst src → encodedAs i [xyz 0b01 dst.code src.code] ∧
      exec i s = .next { s.setReg8 dst (s.reg8 src) with m := 1 }) ∧
    (i.form = .ldRegImm dst n → encodedAs i [xyz 0b00 dst.code 0b110, n] ∧
      exec i s = .next { s.setReg8 dst n with m := 2 }) ∧
    (i.form = .ldRegAtHl dst → encodedAs i [xyz 0b01 dst.code 0b110] ∧
      exec i s = .next { s.setReg8 dst (s.busRead s.hl) with m := 2 }) ∧
    (i.form = .ldAtHlReg src → encodedAs i [xyz 0b01 0b110 src.code] ∧
      exec i s = .next { s.busWrite s.hl (s.reg8 src) with m := 2 }) ∧
    (i.form = .ldAtHlImm n → encodedAs i [0x36, n] ∧ exec i s = .next { s.busWrite s.hl n with m := 3 })

/-- The loads of A through BC, DE, an absolute address and page 0xFF00 (rules R146, R147, R150, R152 and R154).
Decided by the spec itself: the opcode bytes by D2 and the cost `m` by D3. -/
def Obligations.LoadAccumulator : Prop :=
  ∀ (i : Instr) (s : State) (n lo hi : Byte),
    (i.form = .ldAAtBc → encodedAs i [0x0A] ∧ exec i s = .next { s with a := s.busRead s.bc, m := 2 }) ∧
    (i.form = .ldAAtDe → encodedAs i [0x1A] ∧ exec i s = .next { s with a := s.busRead s.de, m := 2 }) ∧
    (i.form = .ldAAtNn (hi ++ lo) → encodedAs i [0xFA, lo, hi] ∧
      exec i s = .next { s with a := s.busRead (hi ++ lo), m := 4 }) ∧
    (i.form = .ldhAAtN n → encodedAs i [0xF0, n] ∧
      exec i s = .next { s with a := s.busRead (BitVec.ofNat 16 (0xFF00 + n.toNat)), m := 3 }) ∧
    (i.form = .ldhAAtC → encodedAs i [0xF2] ∧
      exec i s = .next { s with a := s.busRead (BitVec.ofNat 16 (0xFF00 + s.c.toNat)), m := 2 })

/-- The stores of A through BC, DE, an absolute address and page 0xFF00 (rules R148, R149, R151, R153 and R155).
Decided by the spec itself: the opcode bytes by D2 and the cost `m` by D3. -/
def Obligations.StoreAccumulator : Prop :=
  ∀ (i : Instr) (s : State) (n lo hi : Byte),
    (i.form = .ldAtBcA → encodedAs i [0x02] ∧ exec i s = .next { s.busWrite s.bc s.a with m := 2 }) ∧
    (i.form = .ldAtDeA → encodedAs i [0x12] ∧ exec i s = .next { s.busWrite s.de s.a with m := 2 }) ∧
    (i.form = .ldAtNnA (hi ++ lo) → encodedAs i [0xEA, lo, hi] ∧
      exec i s = .next { s.busWrite (hi ++ lo) s.a with m := 4 }) ∧
    (i.form = .ldhAtNA n → encodedAs i [0xE0, n] ∧
      exec i s = .next { s.busWrite (BitVec.ofNat 16 (0xFF00 + n.toNat)) s.a with m := 3 }) ∧
    (i.form = .ldhAtCA → encodedAs i [0xE2] ∧
      exec i s = .next { s.busWrite (BitVec.ofNat 16 (0xFF00 + s.c.toNat)) s.a with m := 2 })

/-- The loads and stores that step HL, which wraps (rules R156 to R159): the access is made through the old HL.
Decided by the spec itself: the opcode bytes by D2 and the cost `m` by D3. -/
def Obligations.LoadAndStoreSteppingHl : Prop :=
  ∀ (i : Instr) (s : State),
    let up := BitVec.ofNat 16 (s.hl.toNat + 1)
    let down := BitVec.ofNat 16 (s.hl.toNat + 65535)
    (i.form = .ldAtHlIncA → encodedAs i [0x22] ∧ exec i s = .next { (s.busWrite s.hl s.a).setHl up with m := 2 }) ∧
    (i.form = .ldAAtHlInc → encodedAs i [0x2A] ∧
      exec i s = .next { s.setHl up with a := s.busRead s.hl, m := 2 }) ∧
    (i.form = .ldAtHlDecA → encodedAs i [0x32] ∧ exec i s = .next { (s.busWrite s.hl s.a).setHl down with m := 2 }) ∧
    (i.form = .ldAAtHlDec → encodedAs i [0x3A] ∧
      exec i s = .next { s.setHl down with a := s.busRead s.hl, m := 2 })

/-! ## 16-bit loads and the stack -/

/-- `LD rp,nn`, `LD (nn),SP` and `LD SP,HL` (rules R160 to R162). Decided by the spec itself: the opcode bytes by
D2 and the cost `m` by D3. -/
def Obligations.LoadPair : Prop :=
  ∀ (i : Instr) (s : State) (rp : Pair) (lo hi : Byte),
    (i.form = .ldPairImm rp (hi ++ lo) → encodedAs i [xpqz 0b00 rp.code 0 0b001, lo, hi] ∧
      exec i s = .next { s.setPair rp (hi ++ lo) with m := 3 }) ∧
    (i.form = .ldAtNnSp (hi ++ lo) → encodedAs i [0x08, lo, hi] ∧
      exec i s = .next { (s.busWrite (hi ++ lo) (BitVec.ofNat 8 s.sp.toNat)).busWrite ((hi ++ lo) + 1)
        (BitVec.ofNat 8 (s.sp.toNat / 256)) with m := 5 }) ∧
    (i.form = .ldSpHl → encodedAs i [0xF9] ∧ exec i s = .next { s with sp := s.hl, m := 2 })

/-- `ADD SP,d` and `LD HL,SP+d` (rules R203, R163 and R204): the signed sum, with the carries of the unsigned add
of the low byte (decision D7 of the spec); Z and N cleared. Decided by the spec itself: the opcode bytes by D2,
the cost `m` by D3 and bits 3 to 0 of F by D4. -/
def Obligations.AddDisplacementToSp : Prop :=
  ∀ (i : Instr) (s : State) (d : Byte),
    let sum := BitVec.ofInt 16 (s.sp.toNat + d.toInt)
    let f := flagsByte false false (decide (s.sp.toNat % 16 + d.toNat % 16 > 0x0F))
      (decide (s.sp.toNat % 256 + d.toNat > 0xFF)) s.f
    (i.form = .addSpDisp d → encodedAs i [0xE8, d] ∧ exec i s = .next { s with sp := sum, f := f, m := 4 }) ∧
    (i.form = .ldHlSpDisp d → encodedAs i [0xF8, d] ∧ exec i s = .next { s.setHl sum with f := f, m := 3 })

/-- `PUSH rp2` and `POP rp2` (rules R164 and R165): the low cell at the lower address, SP wraps, `POP AF` loads
all eight bits of F. Decided by the spec itself: the opcode bytes by D2 and the cost `m` by D3. -/
def Obligations.PushAndPop : Prop :=
  ∀ (i : Instr) (s : State) (q : StackPair),
    (i.form = .push q → encodedAs i [xpqz 0b11 q.code 0 0b101] ∧
      exec i s = .next { (match q with
        | .bc => pushed s.b s.c s
        | .de => pushed s.d s.e s
        | .hl => pushed s.h s.l s
        | .af => pushed s.a s.f s) with m := 4 }) ∧
    (i.form = .pop q → encodedAs i [xpqz 0b11 q.code 0 0b001] ∧
      exec i s = .next { (match q with
        | .bc => { s with b := s.busRead (s.sp + 1), c := s.busRead s.sp }
        | .de => { s with d := s.busRead (s.sp + 1), e := s.busRead s.sp }
        | .hl => { s with h := s.busRead (s.sp + 1), l := s.busRead s.sp }
        | .af => { s with a := s.busRead (s.sp + 1), f := s.busRead s.sp }) with sp := s.sp + 2, m := 3 })

/-- The stack round trip (rule R166): PUSH and then POP of any pair restores the pair and SP, where the two stack
bytes lie at addresses that store what is written. Decided by the spec itself: the cost `m` by D3, and which addresses
drop a write by D11, D12 and D13. -/
def Obligations.PopUndoesPush : Prop :=
  ∀ (i j : Instr) (s : State) (q : StackPair), i.form = .push q → j.form = .pop q →
    stores (s.sp - 2) = true → stores (s.sp - 1) = true →
    ∃ t u, exec i s = .next t ∧ exec j t = .next u ∧ u = { s with m := 3, mem := t.mem, ppu := t.ppu }

/-! ## 8-bit arithmetic and logic -/

/-- The three operand forms of the accumulator instructions are encoded as rule R175 says. Decided by the spec
itself: the opcode bytes by D2. -/
def Obligations.AccumulatorOperandsAreEncoded : Prop :=
  ∀ (i : Instr) (op : AluOp) (r : Reg8) (n : Byte),
    (i.form = .aluReg op r → encodedAs i [xyz 0b10 op.code r.code]) ∧
    (i.form = .aluAtHl op → encodedAs i [xyz 0b10 op.code 0b110]) ∧
    (i.form = .aluImm op n → encodedAs i [xyz 0b11 op.code 0b110, n])

/-- `ADD A,s` and `ADC A,s` in every operand form (rules R170, R171, R176 and R177). The law of ADC is decision D5
of the spec. Decided by the spec itself: the cost `m` by D3 and bits 3 to 0 of F by D4. -/
def Obligations.AddAndAddWithCarry : Prop :=
  ∀ (i : Instr) (s : State) (v : Byte) (k : Nat),
    let a := s.a.toNat
    let b := v.toNat
    let cin := (s.f.getLsbD 4).toNat
    (aluOperand i.form s = some (.add, v, k) →
      exec i s = .next { s with
        a := BitVec.ofNat 8 (a + b)
        f := flagsByte (decide ((a + b) % 256 = 0)) false (decide (a % 16 + b % 16 > 0xF)) (decide (a + b > 0xFF)) s.f
        m := k }) ∧
    (aluOperand i.form s = some (.adc, v, k) →
      exec i s = .next { s with
        a := BitVec.ofNat 8 (a + b + cin)
        f := flagsByte (decide ((a + b + cin) % 256 = 0)) false (decide (a % 16 + b % 16 + cin > 0xF))
          (decide (a + b + cin > 0xFF)) s.f
        m := k })

/-- `SUB s`, `SBC A,s` and `CP s` in every operand form (rules R172, R173, R178, R179 and R183). The law of SBC is
decision D5 of the spec. Decided by the spec itself: the cost `m` by D3 and bits 3 to 0 of F by D4. -/
def Obligations.SubtractAndCompare : Prop :=
  ∀ (i : Instr) (s : State) (v : Byte) (k : Nat),
    let a := s.a.toNat
    let b := v.toNat
    let cin := (s.f.getLsbD 4).toNat
    let f := flagsByte (decide (a = b)) true (decide (a % 16 < b % 16)) (decide (a < b)) s.f
    (aluOperand i.form s = some (.sub, v, k) →
      exec i s = .next { s with a := BitVec.ofNat 8 (a + 256 - b), f := f, m := k }) ∧
    (aluOperand i.form s = some (.cp, v, k) → exec i s = .next { s with f := f, m := k }) ∧
    (aluOperand i.form s = some (.sbc, v, k) →
      exec i s = .next { s with
        a := BitVec.ofNat 8 (a + 512 - b - cin)
        f := flagsByte (decide ((a + 512 - b - cin) % 256 = 0)) true (decide (a % 16 < b % 16 + cin))
          (decide (a < b + cin)) s.f
        m := k })

/-- `AND s`, `XOR s` and `OR s` in every operand form, bit by bit (rules R174 and R180 to R182). That AND clears
CARRY is decision D9 of the spec. Decided by the spec itself: the cost `m` by D3 and bits 3 to 0 of F by D4. -/
def Obligations.BitwiseLogic : Prop :=
  ∀ (i : Instr) (s : State) (v : Byte) (k : Nat),
    (aluOperand i.form s = some (.and, v, k) → ∃ r : Byte,
      (∀ b, b < 8 → r.getLsbD b = (s.a.getLsbD b && v.getLsbD b)) ∧
      exec i s = .next { s with a := r, f := flagsByte (decide (r.toNat = 0)) false true false s.f, m := k }) ∧
    (aluOperand i.form s = some (.xor, v, k) → ∃ r : Byte,
      (∀ b, b < 8 → r.getLsbD b = (s.a.getLsbD b != v.getLsbD b)) ∧
      exec i s = .next { s with a := r, f := flagsByte (decide (r.toNat = 0)) false false false s.f, m := k }) ∧
    (aluOperand i.form s = some (.or, v, k) → ∃ r : Byte,
      (∀ b, b < 8 → r.getLsbD b = (s.a.getLsbD b || v.getLsbD b)) ∧
      exec i s = .next { s with a := r, f := flagsByte (decide (r.toNat = 0)) false false false s.f, m := k })

/-- `INC` and `DEC` of a register and of the byte HL points at; CARRY is kept (rules R184 to R187). Decided by the
spec itself: the opcode bytes by D2, the cost `m` by D3 and bits 3 to 0 of F by D4. -/
def Obligations.IncrementAndDecrement : Prop :=
  ∀ (i : Instr) (s : State) (r : Reg8),
    let up := fun v : Byte => BitVec.ofNat 8 (v.toNat + 1)
    let down := fun v : Byte => BitVec.ofNat 8 (v.toNat + 255)
    let upF := fun v : Byte => flagsByte (decide (v.toNat = 0xFF)) false (decide (v.toNat % 16 = 0xF)) (s.f.getLsbD 4) s.f
    let downF := fun v : Byte => flagsByte (decide (v.toNat = 1)) true (decide (v.toNat % 16 = 0)) (s.f.getLsbD 4) s.f
    (i.form = .incReg r → encodedAs i [xyz 0b00 r.code 0b100] ∧
      exec i s = .next { s.setReg8 r (up (s.reg8 r)) with f := upF (s.reg8 r), m := 1 }) ∧
    (i.form = .incAtHl → encodedAs i [0x34] ∧
      exec i s = .next { s.busWrite s.hl (up (s.busRead s.hl)) with f := upF (s.busRead s.hl), m := 3 }) ∧
    (i.form = .decReg r → encodedAs i [xyz 0b00 r.code 0b101] ∧
      exec i s = .next { s.setReg8 r (down (s.reg8 r)) with f := downF (s.reg8 r), m := 1 }) ∧
    (i.form = .decAtHl → encodedAs i [0x35] ∧
      exec i s = .next { s.busWrite s.hl (down (s.busRead s.hl)) with f := downF (s.busRead s.hl), m := 3 })

/-- `DAA` on every accumulator and every flag value (rule R188, decision D8 of the spec). Decided by the spec
itself: the opcode bytes by D2, the cost `m` by D3 and bits 3 to 0 of F by D4. -/
def Obligations.DecimalAdjust : Prop :=
  ∀ (i : Instr) (s : State), i.form = .daa →
    let h := s.f.getLsbD 5
    let c := s.f.getLsbD 4
    let sum := daaSum s.a.toNat h c
    let difference := daaDifference s.a.toNat h c
    encodedAs i [0x27] ∧
    exec i s = .next (if s.f.getLsbD 6 then
      { s with
        a := BitVec.ofNat 8 difference
        f := flagsByte (decide (difference = 0)) true false c s.f
        m := 1 }
    else
      { s with
        a := BitVec.ofNat 8 sum
        f := flagsByte (decide (sum % 256 = 0)) false false (c || decide (sum > 0xFF)) s.f
        m := 1 })

/-- What DAA is for: after ADD, ADC, SUB or SBC of two decimal bytes, DAA leaves the decimal sum or difference, with
CARRY as the decimal carry or borrow. Derived from rules R170 to R173 and R188. Decided by the spec itself: the laws
of ADC and SBC by D5, and the DAA algorithm, on which all of this rests, by D8. -/
def Obligations.DecimalArithmeticIsCorrect : Prop :=
  ∀ (i j : Instr) (s : State) (v : Byte) (k : Nat) (op : AluOp),
    aluOperand i.form s = some (op, v, k) → j.form = .daa → isBcd s.a = true → isBcd v = true →
    let x := bcdValue s.a
    let y := bcdValue v
    let cin := (s.f.getLsbD 4).toNat
    (op = .add ∨ op = .adc → let carry := if op = .adc then cin else 0
      ∃ t u, exec i s = .next t ∧ exec j t = .next u ∧ isBcd u.a = true ∧
        bcdValue u.a = (x + y + carry) % 100 ∧ u.f.getLsbD 4 = decide (x + y + carry ≥ 100)) ∧
    (op = .sub ∨ op = .sbc → let borrow := if op = .sbc then cin else 0
      ∃ t u, exec i s = .next t ∧ exec j t = .next u ∧ isBcd u.a = true ∧
        bcdValue u.a = (x + 200 - y - borrow) % 100 ∧ u.f.getLsbD 4 = decide (x < y + borrow))

/-- `CPL`, `SCF` and `CCF`; Z is kept by all three, and CARRY by CPL (rules R189 to R191). Decided by the spec
itself: the opcode bytes by D2, the cost `m` by D3 and bits 3 to 0 of F by D4. -/
def Obligations.ComplementAndCarry : Prop :=
  ∀ (i : Instr) (s : State),
    let z := s.f.getLsbD 7
    let c := s.f.getLsbD 4
    (i.form = .cpl → encodedAs i [0x2F] ∧
      exec i s = .next { s with a := BitVec.ofNat 8 (255 - s.a.toNat), f := flagsByte z true true c s.f, m := 1 }) ∧
    (i.form = .scf → encodedAs i [0x37] ∧ exec i s = .next { s with f := flagsByte z false false true s.f, m := 1 }) ∧
    (i.form = .ccf → encodedAs i [0x3F] ∧ exec i s = .next { s with f := flagsByte z false false (!c) s.f, m := 1 })

/-! ## 16-bit arithmetic -/

/-- `ADD HL,rp`, `INC rp` and `DEC rp` (rules R200 to R202). That ADD HL,rp keeps Z and clears N is decision D6 of
the spec. Decided by the spec itself: the opcode bytes by D2, the cost `m` by D3 and bits 3 to 0 of F by D4. -/
def Obligations.PairArithmetic : Prop :=
  ∀ (i : Instr) (s : State) (rp : Pair),
    let x := s.hl.toNat
    let y := (s.pair rp).toNat
    (i.form = .addHl rp → encodedAs i [xpqz 0b00 rp.code 1 0b001] ∧
      exec i s = .next { s.setHl (BitVec.ofNat 16 (x + y)) with
        f := flagsByte (s.f.getLsbD 7) false (decide (x % 4096 + y % 4096 > 0x0FFF)) (decide (x + y > 0xFFFF)) s.f
        m := 2 }) ∧
    (i.form = .incPair rp → encodedAs i [xpqz 0b00 rp.code 0 0b011] ∧
      exec i s = .next { s.setPair rp (BitVec.ofNat 16 (y + 1)) with m := 2 }) ∧
    (i.form = .decPair rp → encodedAs i [xpqz 0b00 rp.code 1 0b011] ∧
      exec i s = .next { s.setPair rp (BitVec.ofNat 16 (y + 65535)) with m := 2 })

/-! ## Rotates, shifts and bits -/

/-- `RLCA`, `RRCA`, `RLA` and `RRA`: Z is always cleared (rules R210 to R213). Decided by the spec itself: the
opcode bytes by D2, the cost `m` by D3 and bits 3 to 0 of F by D4. -/
def Obligations.AccumulatorRotates : Prop :=
  ∀ (i : Instr) (s : State),
    let turned := fun op => { s with
      a := BitVec.ofNat 8 (rotated op s.a.toNat (s.f.getLsbD 4).toNat)
      f := flagsByte false false false (shiftedOut op s.a.toNat) s.f
      m := 1 }
    (i.form = .rlca → encodedAs i [0x07] ∧ exec i s = .next (turned .rlc)) ∧
    (i.form = .rrca → encodedAs i [0x0F] ∧ exec i s = .next (turned .rrc)) ∧
    (i.form = .rla → encodedAs i [0x17] ∧ exec i s = .next (turned .rl)) ∧
    (i.form = .rra → encodedAs i [0x1F] ∧ exec i s = .next (turned .rr))

/-- The eight prefixed rotates and shifts, of a register and of the byte HL points at (rules R214 to R222). That
SWAP clears CARRY is decision D9 of the spec. Decided by the spec itself: the opcode bytes by D2, the cost `m` by
D3 and bits 3 to 0 of F by D4. -/
def Obligations.PrefixedRotatesAndShifts : Prop :=
  ∀ (i : Instr) (s : State) (op : RotOp) (o : Operand8), i.form = .rot op o →
    let v := match o with
      | .reg r => s.reg8 r
      | .atHl => s.busRead s.hl
    let res := rotated op v.toNat (s.f.getLsbD 4).toNat
    let f := flagsByte (decide (res = 0)) false false (shiftedOut op v.toNat) s.f
    encodedAs i [0xCB, xyz 0b00 op.code o.code] ∧
    exec i s = .next (match o with
      | .reg r => { s.setReg8 r (BitVec.ofNat 8 res) with f := f, m := 2 }
      | .atHl => { s.busWrite s.hl (BitVec.ofNat 8 res) with f := f, m := 4 })

/-- `BIT b,s`, `RES b,s` and `SET b,s`, of a register and of the byte HL points at (rules R223 to R225). Decided
by the spec itself: the opcode bytes by D2, the cost `m` by D3 and bits 3 to 0 of F by D4. -/
def Obligations.BitTestResetSet : Prop :=
  ∀ (i : Instr) (s : State) (b : Fin 8) (o : Operand8),
    let v := match o with
      | .reg r => s.reg8 r
      | .atHl => s.busRead s.hl
    let put := fun res : Byte => match o with
      | .reg r => { s.setReg8 r res with m := 2 }
      | .atHl => { s.busWrite s.hl res with m := 4 }
    (i.form = .bitTest b o → encodedAs i [0xCB, BitVec.ofNat 8 (0x40 + 8 * b.val + o.code.toNat)] ∧
      exec i s = .next { s with
        f := flagsByte (!v.getLsbD b) false true (s.f.getLsbD 4) s.f
        m := match o with
          | .reg _ => 2
          | .atHl => 3 }) ∧
    (i.form = .bitRes b o → encodedAs i [0xCB, BitVec.ofNat 8 (0x80 + 8 * b.val + o.code.toNat)] ∧
      ∃ res : Byte, (∀ k, k < 8 → res.getLsbD k = (v.getLsbD k && decide (k ≠ b.val))) ∧ exec i s = .next (put res)) ∧
    (i.form = .bitSet b o → encodedAs i [0xCB, BitVec.ofNat 8 (0xC0 + 8 * b.val + o.code.toNat)] ∧
      ∃ res : Byte, (∀ k, k < 8 → res.getLsbD k = (v.getLsbD k || decide (k = b.val))) ∧ exec i s = .next (put res))

/-! ## Control transfer -/

/-- The jumps (rules R240 to R245). PC is the post-operand PC, and a jump not taken leaves it there. Decided by
the spec itself: the opcode bytes by D2 and the cost `m` by D3. -/
def Obligations.Jumps : Prop :=
  ∀ (i : Instr) (s : State) (cc : Cond) (lo hi d : Byte),
    let relative := BitVec.ofInt 16 (s.pc.toNat + d.toInt)
    (i.form = .jp (hi ++ lo) → encodedAs i [0xC3, lo, hi] ∧ exec i s = .next { s with pc := hi ++ lo, m := 4 }) ∧
    (i.form = .jpCond cc (hi ++ lo) → encodedAs i [xyz 0b11 (0#1 ++ cc.code) 0b010, lo, hi] ∧
      exec i s = .next (if holds cc s then { s with pc := hi ++ lo, m := 4 } else { s with m := 3 })) ∧
    (i.form = .jpHl → encodedAs i [0xE9] ∧ exec i s = .next { s with pc := s.hl, m := 1 }) ∧
    (i.form = .jr d → encodedAs i [0x18, d] ∧ exec i s = .next { s with pc := relative, m := 3 }) ∧
    (i.form = .jrCond cc d → encodedAs i [xyz 0b00 (1#1 ++ cc.code) 0b000, d] ∧
      exec i s = .next (if holds cc s then { s with pc := relative, m := 3 } else { s with m := 2 }))

/-- Calls, returns and restarts (rules R246 to R251): what is pushed is the post-operand PC, RETI is RET, and a
transfer not taken touches neither SP nor memory. Decided by the spec itself: the opcode bytes by D2 and the cost
`m` by D3. -/
def Obligations.CallsAndReturns : Prop :=
  ∀ (i : Instr) (s : State) (cc : Cond) (lo hi : Byte) (k : Fin 8),
    let called := pushed (BitVec.ofNat 8 (s.pc.toNat / 256)) (BitVec.ofNat 8 s.pc.toNat) s
    let returned := { s with pc := s.busRead (s.sp + 1) ++ s.busRead s.sp, sp := s.sp + 2 }
    (i.form = .call (hi ++ lo) → encodedAs i [0xCD, lo, hi] ∧
      exec i s = .next { called with pc := hi ++ lo, m := 6 }) ∧
    (i.form = .callCond cc (hi ++ lo) → encodedAs i [xyz 0b11 (0#1 ++ cc.code) 0b100, lo, hi] ∧
      exec i s = .next (if holds cc s then { called with pc := hi ++ lo, m := 6 } else { s with m := 3 })) ∧
    (i.form = .ret → encodedAs i [0xC9] ∧ exec i s = .next { returned with m := 4 }) ∧
    (i.form = .retCond cc → encodedAs i [xyz 0b11 (0#1 ++ cc.code) 0b000] ∧
      exec i s = .next (if holds cc s then { returned with m := 5 } else { s with m := 2 })) ∧
    (i.form = .rst k → encodedAs i [BitVec.ofNat 8 (0xC7 + 8 * k.val)] ∧
      exec i s = .next { called with pc := BitVec.ofNat 16 (8 * k.val), m := 4 }) ∧
    (i.form = .reti → encodedAs i [0xD9] ∧ exec i s = .next { returned with m := 4 })

/-- A call is undone by a return: after CALL, a taken CALL cc or RST and then RET, a taken RET cc or RETI, PC and SP
are the post-operand PC and the SP of before, where the two stack bytes store what is written. Derived from rules R246
to R251 and R166. Decided by the spec itself: which addresses drop a write by D11, D12 and D13. -/
def Obligations.ReturnUndoesCall : Prop :=
  ∀ (i j : Instr) (s : State),
    ((∃ nn, i.form = .call nn) ∨ (∃ cc nn, i.form = .callCond cc nn ∧ holds cc s = true) ∨ (∃ k, i.form = .rst k)) →
    (j.form = .ret ∨ j.form = .reti ∨ ∃ cc, j.form = .retCond cc ∧ holds cc s = true) →
    stores (s.sp - 2) = true → stores (s.sp - 1) = true →
    ∃ t u, exec i s = .next t ∧ exec j t = .next u ∧ u = { s with m := u.m, mem := t.mem, ppu := t.ppu }

/-! ## Miscellaneous and the prefix -/

/-- `NOP`, `HALT`, `STOP`, `DI`, `EI` and the eleven unmapped bytes (rules R260 to R265): execution goes on after
all. STOP is one byte by decision D10 of the spec, HALT and EI act at once by D29. Decided by the spec itself: the
opcode bytes by D2 and the cost `m` by D3. -/
def Obligations.MiscellaneousInstructions : Prop :=
  ∀ (i : Instr) (s : State) (u : UnmappedOp),
    (i.form = .nop → encodedAs i [0x00] ∧ exec i s = .next { s with m := 1 }) ∧
    (i.form = .halt → encodedAs i [0x76] ∧ exec i s = .next { s with halted := true, m := 1 }) ∧
    (i.form = .stop → encodedAs i [0x10] ∧ exec i s = .next { s with stopped := true, m := 1 }) ∧
    (i.form = .di → encodedAs i [0xF3] ∧ exec i s = .next { s with ime := false, m := 1 }) ∧
    (i.form = .ei → encodedAs i [0xFB] ∧ exec i s = .next { s with ime := true, m := 1 }) ∧
    (i.form = .unmapped u → encodedAs i [u.byte] ∧ exec i s = .next { s with m := 1 })

/-- The prefix instruction (rule R110): it is the instruction that its second byte selects, with no effect of its own,
and it completes for all 256 second bytes. Decided by the spec itself: the opcode bytes by D2. -/
def Obligations.PrefixRunsTheSecondByte : Prop :=
  ∀ (op2 : Byte) (s : State), ∃ (j : Instr) (t : State),
    decode [0xCB, op2] = .ok (j, []) ∧ exec j s = .next t ∧ exec (.prefixCb op2) s = .next t

/-! ## The picture-processing unit -/

/-- The PPU's registers on the bus (rules R301 to R308): LCDC, SCY and SCX keep the byte written, BGP splits it into
four entries and reads it back, LY and the three absent registers drop it, and the absent ones read 0. Decided by the
spec itself: that LCDC stores and returns the whole byte by D14, and the three absent registers by D13. -/
def Obligations.PpuRegisters : Prop :=
  ∀ (s : State) (v : Byte),
    s.busWrite 0xFF40 v = { s with ppu := { s.ppu with lcdc := v } } ∧ s.busRead 0xFF40 = s.ppu.lcdc ∧
    s.busWrite 0xFF42 v = { s with ppu := { s.ppu with scy := v } } ∧ s.busRead 0xFF42 = s.ppu.scy ∧
    s.busWrite 0xFF43 v = { s with ppu := { s.ppu with scx := v } } ∧ s.busRead 0xFF43 = s.ppu.scx ∧
    s.busWrite 0xFF44 v = s ∧ s.busRead 0xFF44 = s.ppu.ly ∧
    (∃ pal : Vector Shade 4, s.busWrite 0xFF47 v = { s with ppu := { s.ppu with pal := pal } } ∧
      ∀ k : Fin 4, (pal[k]).toNat = v.toNat / 4 ^ k.val % 4) ∧
    (s.busWrite 0xFF47 v).busRead 0xFF47 = v ∧
    (s.busRead 0xFF47).toNat = 64 * (s.ppu.pal[3]).toNat + 16 * (s.ppu.pal[2]).toNat + 4 * (s.ppu.pal[1]).toNat
      + (s.ppu.pal[0]).toNat ∧
    ∀ a : Word, a = 0xFF41 ∨ a = 0xFF45 ∨ a = 0xFF46 → s.busWrite a v = s ∧ s.busRead a = 0

/-- `advance(m)` (rules R311 to R315): nothing while the LCD is off; else the counter grows by `4 * m`, and where it
reaches the threshold of the mode it restarts at 0 and exactly one transition is made. Entering V-blank presents the
frame (rule R331). Decided by the spec itself: the compare, the restart at 0 and the one transition by D16, the order
of LY and the mode by D28, and that a present is `OUT <- FB` with FRAMES one higher by D21. -/
def Obligations.AdvanceMakesOneTransition : Prop :=
  ∀ (p : Ppu) (mem : Memory) (m : Nat),
    let q := p.advance mem m
    let c := p.cnt + 4 * m
    (p.lcdc.getLsbD 7 = false → q = p) ∧
    (p.lcdc.getLsbD 7 = true →
      (p.mode = .oamSearch → q = if 80 ≤ c then { p with cnt := 0, mode := .pixelTransfer } else { p with cnt := c }) ∧
      (p.mode = .pixelTransfer → q = if 172 ≤ c then { p.renderScanline mem with cnt := 0, mode := .hBlank }
        else { p with cnt := c }) ∧
      (p.mode = .hBlank → q = if 204 ≤ c then
          (if p.ly.toNat = 143 then { p with cnt := 0, ly := 144, mode := .vBlank, out := p.fb, frames := p.frames + 1 }
          else { p with cnt := 0, ly := BitVec.ofNat 8 (p.ly.toNat + 1), mode := .oamSearch })
        else { p with cnt := c }) ∧
      (p.mode = .vBlank → q = if 456 ≤ c then
          (if 153 ≤ p.ly.toNat then { p with cnt := 0, ly := 0, mode := .oamSearch }
          else { p with cnt := 0, ly := BitVec.ofNat 8 (p.ly.toNat + 1) })
        else { p with cnt := c }))

/-- The cadence law (rule R317): from the start of a line below 143 with the LCD on, 114 calls of `advance(1)` render
the line, move LY to the next one and return to OAM-search; nothing else of the PPU changes. Decided by the spec
itself: the threshold rule by D16. -/
def Obligations.LineTakes114Cycles : Prop :=
  ∀ (p : Ppu) (mem : Memory), p.lcdc.getLsbD 7 = true → p.mode = .oamSearch → p.cnt = 0 → p.ly.toNat < 143 →
    ticked mem 114 p = { p with
      ly := BitVec.ofNat 8 (p.ly.toNat + 1)
      fb := (p.renderScanline mem).fb }

/-- The frame law (rule R317, property Q7): from the start of a frame with the LCD on, after any number `k` of calls
of `advance(1)`, LY is `(k / 114) mod 154` and the number of presents has grown by `(k + 1140) / 17556`. Decided by
the spec itself: the threshold rule by D16, and FRAMES, which counts the presents, by D21. -/
def Obligations.FrameTakes17556Cycles : Prop :=
  ∀ (p : Ppu) (mem : Memory) (k : Nat), p.lcdc.getLsbD 7 = true → p.mode = .oamSearch → p.cnt = 0 → p.ly = 0 →
    (ticked mem k p).ly.toNat = k / 114 % 154 ∧ (ticked mem k p).frames = p.frames + (k + 1140) / 17556

/-- What the output shows (rule R333), where nothing is written during the frame: at the present that ends a frame
with the LCD on, every row of OUT is the line that rule R325 computes for it. Decided by the spec itself: OUT and
FRAMES by D21, the threshold rule by D16, and of the line the sense of LCDC bit 3 by D22 and the want of an effect of
bit 0 by D15. -/
def Obligations.OutputShowsRenderedLines : Prop :=
  ∀ (p : Ppu) (mem : Memory), p.lcdc.getLsbD 7 = true → p.mode = .oamSearch → p.cnt = 0 → p.ly = 0 →
    (ticked mem 16416 p).frames = p.frames + 1 ∧
    ∀ y : Fin 144, (ticked mem 16416 p).out[y] = ({ p with ly := BitVec.ofNat 8 y.val } : Ppu).scanline mem

/-- `renderScanline()` (rules R325 and R326) with the tile cache of rule R42: row LY of the frame buffer is drawn from
video RAM, and every other row stays (rule R330). Decided by the spec itself: that LCDC bit 3 set selects the map at
0x1C00 by D22, and that bit 0 has no effect by D15. -/
def Obligations.RenderedLineComesFromVideoRam : Prop :=
  ∀ (p : Ppu) (mem : Memory), tilesMatch mem p.tile → p.ly.toNat < 144 →
    let q := p.renderScanline mem
    q = { p with fb := q.fb } ∧
    ∀ (y : Fin 144) (x : Fin 160),
      (y.val = p.ly.toNat → ∃ shade : Fin 4, shade.val = shadeAt p mem x ∧ q.fb[y][x] = p.pal[shade]) ∧
      (y.val ≠ p.ly.toNat → q.fb[y][x] = p.fb[y][x])

/-- The output port (rules R327 and R332): a step that renders a line sends its 160 pixels in ascending x with the
colours of the frame buffer's new row, a step that enters V-blank sends one present, and every other step sends
nothing. Decided by the spec itself: the colour numbers by D20, and the threshold rule by D16. -/
def Obligations.SinkReceivesRenderedPixels : Prop :=
  ∀ s u : State, cpuStep s = .next u →
    let p := u.ppu
    let c := p.cnt + 4 * u.m
    let rgb := fun k : Shade => ([⟨255, 255, 255⟩, ⟨192, 192, 192⟩, ⟨96, 96, 96⟩, ⟨0, 0, 0⟩] : List Rgb).getD k.toNat ⟨255, 0, 255⟩
    (p.lcdc.getLsbD 7 = true → p.mode = .pixelTransfer → 172 ≤ c → (visible : p.ly.toNat < 144) →
      stepEvents s = List.ofFn fun x : Fin 160 =>
        .pixelSet x.val p.ly.toNat (rgb ((p.advance u.mem u.m).fb[p.ly.toNat])[x])) ∧
    (p.lcdc.getLsbD 7 = true → p.mode = .hBlank → 204 ≤ c → p.ly.toNat = 143 → stepEvents s = [.present]) ∧
    (¬(p.lcdc.getLsbD 7 = true ∧ p.mode = .pixelTransfer ∧ 172 ≤ c ∧ p.ly.toNat < 144) →
      ¬(p.lcdc.getLsbD 7 = true ∧ p.mode = .hBlank ∧ 204 ≤ c ∧ p.ly.toNat = 143) → stepEvents s = [])

/-! ## What a program can observe -/

/-- IME, the latches, `m`, CLK, the frame buffer, the output and the present count are never observed by a program
(rule R44): two states that differ there alone step to states that differ there alone. Decided by the spec itself: OUT
and FRAMES by D21. -/
def Obligations.UnobservableStateHasNoInfluence : Prop :=
  ∀ s t s' t' : State, sameToProgram s t → step s = .next s' → step t = .next t' → sameToProgram s' t'
end

