-- ==== Sys2Proof/Laws/Memory.lean ====
section
/-! SUPPORT. The laws of `Memory`: a read after a write, which hold of every list, and the canonical form, which every
memory operation keeps. -/

namespace Sys2Proof.Machine

/-! ## Read after write -/

theorem Memory.read_erase_same (m : Memory) (key : Nat) : (m.erase key).read key = 0 := by
  induction m with
  | nil => rfl
  | cons cell rest ih =>
    obtain ⟨k, v⟩ := cell
    by_cases same : k = key <;> simp [Memory.erase, Memory.read, same, ih]

theorem Memory.read_erase_other (m : Memory) {key other : Nat} (apart : other ≠ key) :
    (m.erase key).read other = m.read other := by
  induction m with
  | nil => rfl
  | cons cell rest ih =>
    obtain ⟨k, v⟩ := cell
    by_cases same : k = key
    · subst same; simp [Memory.erase, Memory.read, ih, apart.symm]
    · simp [Memory.erase, Memory.read, same, ih]

theorem Memory.read_insert_other (m : Memory) {key other : Nat} (byte : Byte) (apart : other ≠ key) :
    (m.insert key byte).read other = m.read other := by
  induction m with
  | nil => simp [Memory.insert, Memory.read, apart.symm]
  | cons cell rest ih =>
    obtain ⟨k, v⟩ := cell
    by_cases before : key < k <;> simp [Memory.insert, Memory.read, before, ih, apart.symm]

/-- No pair of a memory has this key. -/
def Memory.Free (m : Memory) (key : Nat) : Prop := ∀ cell ∈ m, cell.1 ≠ key

theorem Memory.free_erase (m : Memory) (key : Nat) : (m.erase key).Free key := by
  induction m with
  | nil => simp [Memory.erase, Memory.Free]
  | cons cell rest ih =>
    obtain ⟨k, v⟩ := cell
    by_cases same : k = key
    · simpa [Memory.erase, same] using ih
    · intro c hc
      rcases List.mem_cons.mp (by simpa [Memory.erase, same] using hc) with rfl | hc
      · exact same
      · exact ih c hc

theorem Memory.read_insert_same {m : Memory} {key : Nat} (byte : Byte) (free : m.Free key) :
    (m.insert key byte).read key = byte := by
  induction m with
  | nil => simp [Memory.insert, Memory.read]
  | cons cell rest ih =>
    obtain ⟨k, v⟩ := cell
    have apart : k ≠ key := free (k, v) (by simp)
    by_cases before : key < k
    · simp [Memory.insert, Memory.read, before]
    · simp [Memory.insert, Memory.read, before, apart, ih fun c hc => free c (by simp [hc])]

/-- Reading the key that was written gives the byte. -/
@[simp] theorem Memory.read_write_same (m : Memory) (key : Nat) (byte : Byte) :
    (m.write key byte).read key = byte := by
  unfold Memory.write
  split
  · rename_i zero; rw [Memory.read_erase_same, zero]
  · exact Memory.read_insert_same byte (m.free_erase key)

/-- Reading any other key gives what it gave. -/
theorem Memory.read_write_other (m : Memory) {key other : Nat} (byte : Byte) (apart : other ≠ key) :
    (m.write key byte).read other = m.read other := by
  unfold Memory.write
  split
  · exact m.read_erase_other apart
  · rw [Memory.read_insert_other _ byte apart, m.read_erase_other apart]

/-- A read after a write, in one equation. -/
theorem Memory.read_write (m : Memory) (key other : Nat) (byte : Byte) :
    (m.write key byte).read other = if other = key then byte else m.read other := by
  split
  · rename_i same; rw [same, Memory.read_write_same]
  · rename_i apart; exact m.read_write_other byte apart

/-! ## The canonical form -/

/-- Every key of a memory is at least `low`. -/
def Memory.From (low : Nat) (m : Memory) : Prop := ∀ cell ∈ m, low ≤ cell.1

/-- The canonical form, one pair at a time. -/
theorem Memory.wf_cons (k : Nat) (v : Byte) (rest : Memory) :
    Memory.wf ((k, v) :: rest) = true ↔ v ≠ 0 ∧ Memory.From (k + 1) rest ∧ rest.wf = true := by
  induction rest generalizing k v with
  | nil => simp [Memory.wf, Memory.From]
  | cons cell rest ih =>
    obtain ⟨k', v'⟩ := cell
    have tail := ih k' v'
    simp only [Memory.wf, Bool.and_eq_true, decide_eq_true_eq, bne_iff_ne, ne_eq] at tail ⊢
    constructor
    · rintro ⟨⟨rises, nonzero⟩, ok⟩
      refine ⟨nonzero, ?_, ok⟩
      intro c hc
      rcases List.mem_cons.mp hc with rfl | hc
      · exact rises
      · have := (tail.mp ok).2.1 c hc; omega
    · rintro ⟨nonzero, above, ok⟩
      exact ⟨⟨above (k', v') (by simp), nonzero⟩, ok⟩

theorem Memory.from_erase {low : Nat} {m : Memory} (key : Nat) (above : m.From low) : (m.erase key).From low := by
  induction m with
  | nil => simpa [Memory.erase] using above
  | cons cell rest ih =>
    obtain ⟨k, v⟩ := cell
    have tail := ih fun c hc => above c (by simp [hc])
    by_cases same : k = key
    · simpa [Memory.erase, same] using tail
    · intro c hc
      rcases List.mem_cons.mp (by simpa [Memory.erase, same] using hc) with rfl | hc
      · exact above _ (by simp)
      · exact tail c hc

theorem Memory.from_insert {low key : Nat} {m : Memory} (byte : Byte) (le : low ≤ key) (above : m.From low) :
    (m.insert key byte).From low := by
  induction m with
  | nil => intro c hc; simp [Memory.insert] at hc; subst hc; exact le
  | cons cell rest ih =>
    obtain ⟨k, v⟩ := cell
    have tail := ih fun c hc => above c (by simp [hc])
    have head : low ≤ k := above (k, v) (by simp)
    intro c hc
    by_cases before : key < k
    · simp [Memory.insert, before] at hc
      rcases hc with rfl | rfl | hc
      · exact le
      · exact head
      · exact above c (by simp [hc])
    · simp [Memory.insert, before] at hc
      rcases hc with rfl | hc
      · exact head
      · exact tail c hc

theorem Memory.wf_erase {m : Memory} (key : Nat) (ok : m.wf = true) : (m.erase key).wf = true := by
  induction m with
  | nil => rfl
  | cons cell rest ih =>
    obtain ⟨k, v⟩ := cell
    obtain ⟨nonzero, above, tail⟩ := (Memory.wf_cons k v rest).mp ok
    by_cases same : k = key
    · simpa [Memory.erase, same] using ih tail
    · simpa [Memory.erase, same] using
        (Memory.wf_cons k v _).mpr ⟨nonzero, Memory.from_erase key above, ih tail⟩

theorem Memory.wf_insert {m : Memory} {key : Nat} {byte : Byte} (nonzero : byte ≠ 0) (free : m.Free key)
    (ok : m.wf = true) : (m.insert key byte).wf = true := by
  induction m with
  | nil => simpa [Memory.insert, Memory.wf] using nonzero
  | cons cell rest ih =>
    obtain ⟨k, v⟩ := cell
    obtain ⟨nz, above, tail⟩ := (Memory.wf_cons k v rest).mp ok
    by_cases before : key < k
    · simp only [Memory.insert, before, if_true]
      refine (Memory.wf_cons _ _ _).mpr ⟨nonzero, ?_, ok⟩
      intro c hc
      rcases List.mem_cons.mp hc with rfl | hc
      · exact before
      · have := above c hc; omega
    · have apart : k ≠ key := free (k, v) (by simp)
      simp only [Memory.insert, before, if_false]
      exact (Memory.wf_cons _ _ _).mpr
        ⟨nz, Memory.from_insert byte (by omega) above, ih (fun c hc => free c (by simp [hc])) tail⟩

/-- A write keeps the canonical form. -/
theorem Memory.wf_write {m : Memory} (key : Nat) (byte : Byte) (ok : m.wf = true) : (m.write key byte).wf = true := by
  unfold Memory.write
  split
  · exact Memory.wf_erase key ok
  · rename_i nonzero
    exact Memory.wf_insert nonzero (m.free_erase key) (Memory.wf_erase key ok)

/-! ## The cartridge image -/

theorem romCells_bounds (image : List Byte) (key count : Nat) :
    ∀ cell ∈ romCells image key count, key ≤ cell.1 ∧ cell.1 < key + count := by
  induction image generalizing key count with
  | nil => simp [romCells]
  | cons v rest ih =>
    cases count with
    | zero => simp [romCells]
    | succ n =>
      intro c hc
      have step : c ∈ romCells rest (key + 1) n → key ≤ c.1 ∧ c.1 < key + (n + 1) := fun h => by
        have := ih (key + 1) n c h; omega
      by_cases zero : v = 0
      · rw [romCells, if_pos zero] at hc; exact step hc
      · rw [romCells, if_neg zero] at hc
        rcases List.mem_cons.mp hc with rfl | hc
        · simp
        · exact step hc

theorem romCells_wf (image : List Byte) (key count : Nat) : Memory.wf (romCells image key count) = true := by
  induction image generalizing key count with
  | nil => rfl
  | cons v rest ih =>
    cases count with
    | zero => rfl
    | succ n =>
      by_cases zero : v = 0
      · rw [romCells, if_pos zero]; exact ih (key + 1) n
      · simp only [romCells, zero, if_false]
        exact (Memory.wf_cons _ _ _).mpr
          ⟨zero, fun c hc => (romCells_bounds rest (key + 1) n c hc).1, ih (key + 1) n⟩

theorem Memory.wf_append {below above : Memory} {bound : Nat} (lt : ∀ cell ∈ below, cell.1 < bound)
    (ge : above.From bound) (ok : below.wf = true) (ok' : above.wf = true) : Memory.wf (below ++ above) = true := by
  induction below with
  | nil => exact ok'
  | cons cell rest ih =>
    obtain ⟨k, v⟩ := cell
    obtain ⟨nonzero, tail, okRest⟩ := (Memory.wf_cons k v rest).mp ok
    refine (Memory.wf_cons k v _).mpr ⟨nonzero, ?_, ih (fun c hc => lt c (by simp [hc])) okRest⟩
    intro c hc
    rcases List.mem_append.mp hc with hc | hc
    · exact tail c hc
    · have := lt (k, v) (by simp); have := ge c hc; simp at *; omega

theorem Memory.wf_filter {m : Memory} (keep : Host.Cell → Bool) (ok : m.wf = true) :
    Memory.wf (m.filter keep) = true := by
  induction m with
  | nil => rfl
  | cons cell rest ih =>
    obtain ⟨k, v⟩ := cell
    obtain ⟨nonzero, above, tail⟩ := (Memory.wf_cons k v rest).mp ok
    by_cases kept : keep (k, v) = true
    · simp only [List.filter_cons, kept, if_true]
      exact (Memory.wf_cons _ _ _).mpr ⟨nonzero, fun c hc => above c (List.mem_of_mem_filter hc), ih tail⟩
    · simpa [List.filter_cons, kept] using ih tail

/-- Loading a cartridge image keeps the canonical form. -/
theorem Memory.wf_withRom {m : Memory} (image : List Byte) (ok : m.wf = true) : (m.withRom image).wf = true := by
  refine Memory.wf_append (bound := 0x8000) (fun c hc => ?_) (fun c hc => ?_) (romCells_wf _ _ _)
    (Memory.wf_filter _ ok)
  · have := (romCells_bounds image 0 0x8000 c hc).2; omega
  · simpa using (List.mem_filter.mp hc).2

end Sys2Proof.Machine
end

