-- ==== Sys2Proof/Laws/State.lean ====
section
/-! SUPPORT. What each update of the state leaves in each field: one lemma for each field of each update, true by
definition, so that no later proof unfolds a record update. -/

namespace Sys2Proof.Machine

/-! ### `State.setA` -/

@[simp] theorem State.setA_a (s : State) (v : Byte) : (s.setA v).a = v := rfl
@[simp] theorem State.setA_f (s : State) (v : Byte) : (s.setA v).f = s.f := rfl
@[simp] theorem State.setA_b (s : State) (v : Byte) : (s.setA v).b = s.b := rfl
@[simp] theorem State.setA_c (s : State) (v : Byte) : (s.setA v).c = s.c := rfl
@[simp] theorem State.setA_d (s : State) (v : Byte) : (s.setA v).d = s.d := rfl
@[simp] theorem State.setA_e (s : State) (v : Byte) : (s.setA v).e = s.e := rfl
@[simp] theorem State.setA_h (s : State) (v : Byte) : (s.setA v).h = s.h := rfl
@[simp] theorem State.setA_l (s : State) (v : Byte) : (s.setA v).l = s.l := rfl
@[simp] theorem State.setA_sp (s : State) (v : Byte) : (s.setA v).sp = s.sp := rfl
@[simp] theorem State.setA_pc (s : State) (v : Byte) : (s.setA v).pc = s.pc := rfl
@[simp] theorem State.setA_ime (s : State) (v : Byte) : (s.setA v).ime = s.ime := rfl
@[simp] theorem State.setA_halted (s : State) (v : Byte) : (s.setA v).halted = s.halted := rfl
@[simp] theorem State.setA_stopped (s : State) (v : Byte) : (s.setA v).stopped = s.stopped := rfl
@[simp] theorem State.setA_m (s : State) (v : Byte) : (s.setA v).m = s.m := rfl
@[simp] theorem State.setA_clk (s : State) (v : Byte) : (s.setA v).clk = s.clk := rfl
@[simp] theorem State.setA_boot (s : State) (v : Byte) : (s.setA v).boot = s.boot := rfl
@[simp] theorem State.setA_bootRom (s : State) (v : Byte) : (s.setA v).bootRom = s.bootRom := rfl
@[simp] theorem State.setA_romLoaded (s : State) (v : Byte) : (s.setA v).romLoaded = s.romLoaded := rfl
@[simp] theorem State.setA_mem (s : State) (v : Byte) : (s.setA v).mem = s.mem := rfl
@[simp] theorem State.setA_ppu (s : State) (v : Byte) : (s.setA v).ppu = s.ppu := rfl

/-! ### `State.setAf` -/

@[simp] theorem State.setAf_a (s : State) (v : Word) : (s.setAf v).a = hiByte v := rfl
@[simp] theorem State.setAf_f (s : State) (v : Word) : (s.setAf v).f = loByte v := rfl
@[simp] theorem State.setAf_b (s : State) (v : Word) : (s.setAf v).b = s.b := rfl
@[simp] theorem State.setAf_c (s : State) (v : Word) : (s.setAf v).c = s.c := rfl
@[simp] theorem State.setAf_d (s : State) (v : Word) : (s.setAf v).d = s.d := rfl
@[simp] theorem State.setAf_e (s : State) (v : Word) : (s.setAf v).e = s.e := rfl
@[simp] theorem State.setAf_h (s : State) (v : Word) : (s.setAf v).h = s.h := rfl
@[simp] theorem State.setAf_l (s : State) (v : Word) : (s.setAf v).l = s.l := rfl
@[simp] theorem State.setAf_sp (s : State) (v : Word) : (s.setAf v).sp = s.sp := rfl
@[simp] theorem State.setAf_pc (s : State) (v : Word) : (s.setAf v).pc = s.pc := rfl
@[simp] theorem State.setAf_ime (s : State) (v : Word) : (s.setAf v).ime = s.ime := rfl
@[simp] theorem State.setAf_halted (s : State) (v : Word) : (s.setAf v).halted = s.halted := rfl
@[simp] theorem State.setAf_stopped (s : State) (v : Word) : (s.setAf v).stopped = s.stopped := rfl
@[simp] theorem State.setAf_m (s : State) (v : Word) : (s.setAf v).m = s.m := rfl
@[simp] theorem State.setAf_clk (s : State) (v : Word) : (s.setAf v).clk = s.clk := rfl
@[simp] theorem State.setAf_boot (s : State) (v : Word) : (s.setAf v).boot = s.boot := rfl
@[simp] theorem State.setAf_bootRom (s : State) (v : Word) : (s.setAf v).bootRom = s.bootRom := rfl
@[simp] theorem State.setAf_romLoaded (s : State) (v : Word) : (s.setAf v).romLoaded = s.romLoaded := rfl
@[simp] theorem State.setAf_mem (s : State) (v : Word) : (s.setAf v).mem = s.mem := rfl
@[simp] theorem State.setAf_ppu (s : State) (v : Word) : (s.setAf v).ppu = s.ppu := rfl

/-! ### `State.setBc` -/

@[simp] theorem State.setBc_a (s : State) (v : Word) : (s.setBc v).a = s.a := rfl
@[simp] theorem State.setBc_f (s : State) (v : Word) : (s.setBc v).f = s.f := rfl
@[simp] theorem State.setBc_b (s : State) (v : Word) : (s.setBc v).b = hiByte v := rfl
@[simp] theorem State.setBc_c (s : State) (v : Word) : (s.setBc v).c = loByte v := rfl
@[simp] theorem State.setBc_d (s : State) (v : Word) : (s.setBc v).d = s.d := rfl
@[simp] theorem State.setBc_e (s : State) (v : Word) : (s.setBc v).e = s.e := rfl
@[simp] theorem State.setBc_h (s : State) (v : Word) : (s.setBc v).h = s.h := rfl
@[simp] theorem State.setBc_l (s : State) (v : Word) : (s.setBc v).l = s.l := rfl
@[simp] theorem State.setBc_sp (s : State) (v : Word) : (s.setBc v).sp = s.sp := rfl
@[simp] theorem State.setBc_pc (s : State) (v : Word) : (s.setBc v).pc = s.pc := rfl
@[simp] theorem State.setBc_ime (s : State) (v : Word) : (s.setBc v).ime = s.ime := rfl
@[simp] theorem State.setBc_halted (s : State) (v : Word) : (s.setBc v).halted = s.halted := rfl
@[simp] theorem State.setBc_stopped (s : State) (v : Word) : (s.setBc v).stopped = s.stopped := rfl
@[simp] theorem State.setBc_m (s : State) (v : Word) : (s.setBc v).m = s.m := rfl
@[simp] theorem State.setBc_clk (s : State) (v : Word) : (s.setBc v).clk = s.clk := rfl
@[simp] theorem State.setBc_boot (s : State) (v : Word) : (s.setBc v).boot = s.boot := rfl
@[simp] theorem State.setBc_bootRom (s : State) (v : Word) : (s.setBc v).bootRom = s.bootRom := rfl
@[simp] theorem State.setBc_romLoaded (s : State) (v : Word) : (s.setBc v).romLoaded = s.romLoaded := rfl
@[simp] theorem State.setBc_mem (s : State) (v : Word) : (s.setBc v).mem = s.mem := rfl
@[simp] theorem State.setBc_ppu (s : State) (v : Word) : (s.setBc v).ppu = s.ppu := rfl

/-! ### `State.setDe` -/

@[simp] theorem State.setDe_a (s : State) (v : Word) : (s.setDe v).a = s.a := rfl
@[simp] theorem State.setDe_f (s : State) (v : Word) : (s.setDe v).f = s.f := rfl
@[simp] theorem State.setDe_b (s : State) (v : Word) : (s.setDe v).b = s.b := rfl
@[simp] theorem State.setDe_c (s : State) (v : Word) : (s.setDe v).c = s.c := rfl
@[simp] theorem State.setDe_d (s : State) (v : Word) : (s.setDe v).d = hiByte v := rfl
@[simp] theorem State.setDe_e (s : State) (v : Word) : (s.setDe v).e = loByte v := rfl
@[simp] theorem State.setDe_h (s : State) (v : Word) : (s.setDe v).h = s.h := rfl
@[simp] theorem State.setDe_l (s : State) (v : Word) : (s.setDe v).l = s.l := rfl
@[simp] theorem State.setDe_sp (s : State) (v : Word) : (s.setDe v).sp = s.sp := rfl
@[simp] theorem State.setDe_pc (s : State) (v : Word) : (s.setDe v).pc = s.pc := rfl
@[simp] theorem State.setDe_ime (s : State) (v : Word) : (s.setDe v).ime = s.ime := rfl
@[simp] theorem State.setDe_halted (s : State) (v : Word) : (s.setDe v).halted = s.halted := rfl
@[simp] theorem State.setDe_stopped (s : State) (v : Word) : (s.setDe v).stopped = s.stopped := rfl
@[simp] theorem State.setDe_m (s : State) (v : Word) : (s.setDe v).m = s.m := rfl
@[simp] theorem State.setDe_clk (s : State) (v : Word) : (s.setDe v).clk = s.clk := rfl
@[simp] theorem State.setDe_boot (s : State) (v : Word) : (s.setDe v).boot = s.boot := rfl
@[simp] theorem State.setDe_bootRom (s : State) (v : Word) : (s.setDe v).bootRom = s.bootRom := rfl
@[simp] theorem State.setDe_romLoaded (s : State) (v : Word) : (s.setDe v).romLoaded = s.romLoaded := rfl
@[simp] theorem State.setDe_mem (s : State) (v : Word) : (s.setDe v).mem = s.mem := rfl
@[simp] theorem State.setDe_ppu (s : State) (v : Word) : (s.setDe v).ppu = s.ppu := rfl

/-! ### `State.setHl` -/

@[simp] theorem State.setHl_a (s : State) (v : Word) : (s.setHl v).a = s.a := rfl
@[simp] theorem State.setHl_f (s : State) (v : Word) : (s.setHl v).f = s.f := rfl
@[simp] theorem State.setHl_b (s : State) (v : Word) : (s.setHl v).b = s.b := rfl
@[simp] theorem State.setHl_c (s : State) (v : Word) : (s.setHl v).c = s.c := rfl
@[simp] theorem State.setHl_d (s : State) (v : Word) : (s.setHl v).d = s.d := rfl
@[simp] theorem State.setHl_e (s : State) (v : Word) : (s.setHl v).e = s.e := rfl
@[simp] theorem State.setHl_h (s : State) (v : Word) : (s.setHl v).h = hiByte v := rfl
@[simp] theorem State.setHl_l (s : State) (v : Word) : (s.setHl v).l = loByte v := rfl
@[simp] theorem State.setHl_sp (s : State) (v : Word) : (s.setHl v).sp = s.sp := rfl
@[simp] theorem State.setHl_pc (s : State) (v : Word) : (s.setHl v).pc = s.pc := rfl
@[simp] theorem State.setHl_ime (s : State) (v : Word) : (s.setHl v).ime = s.ime := rfl
@[simp] theorem State.setHl_halted (s : State) (v : Word) : (s.setHl v).halted = s.halted := rfl
@[simp] theorem State.setHl_stopped (s : State) (v : Word) : (s.setHl v).stopped = s.stopped := rfl
@[simp] theorem State.setHl_m (s : State) (v : Word) : (s.setHl v).m = s.m := rfl
@[simp] theorem State.setHl_clk (s : State) (v : Word) : (s.setHl v).clk = s.clk := rfl
@[simp] theorem State.setHl_boot (s : State) (v : Word) : (s.setHl v).boot = s.boot := rfl
@[simp] theorem State.setHl_bootRom (s : State) (v : Word) : (s.setHl v).bootRom = s.bootRom := rfl
@[simp] theorem State.setHl_romLoaded (s : State) (v : Word) : (s.setHl v).romLoaded = s.romLoaded := rfl
@[simp] theorem State.setHl_mem (s : State) (v : Word) : (s.setHl v).mem = s.mem := rfl
@[simp] theorem State.setHl_ppu (s : State) (v : Word) : (s.setHl v).ppu = s.ppu := rfl

/-! ### `State.setSp` -/

@[simp] theorem State.setSp_a (s : State) (v : Word) : (s.setSp v).a = s.a := rfl
@[simp] theorem State.setSp_f (s : State) (v : Word) : (s.setSp v).f = s.f := rfl
@[simp] theorem State.setSp_b (s : State) (v : Word) : (s.setSp v).b = s.b := rfl
@[simp] theorem State.setSp_c (s : State) (v : Word) : (s.setSp v).c = s.c := rfl
@[simp] theorem State.setSp_d (s : State) (v : Word) : (s.setSp v).d = s.d := rfl
@[simp] theorem State.setSp_e (s : State) (v : Word) : (s.setSp v).e = s.e := rfl
@[simp] theorem State.setSp_h (s : State) (v : Word) : (s.setSp v).h = s.h := rfl
@[simp] theorem State.setSp_l (s : State) (v : Word) : (s.setSp v).l = s.l := rfl
@[simp] theorem State.setSp_sp (s : State) (v : Word) : (s.setSp v).sp = v := rfl
@[simp] theorem State.setSp_pc (s : State) (v : Word) : (s.setSp v).pc = s.pc := rfl
@[simp] theorem State.setSp_ime (s : State) (v : Word) : (s.setSp v).ime = s.ime := rfl
@[simp] theorem State.setSp_halted (s : State) (v : Word) : (s.setSp v).halted = s.halted := rfl
@[simp] theorem State.setSp_stopped (s : State) (v : Word) : (s.setSp v).stopped = s.stopped := rfl
@[simp] theorem State.setSp_m (s : State) (v : Word) : (s.setSp v).m = s.m := rfl
@[simp] theorem State.setSp_clk (s : State) (v : Word) : (s.setSp v).clk = s.clk := rfl
@[simp] theorem State.setSp_boot (s : State) (v : Word) : (s.setSp v).boot = s.boot := rfl
@[simp] theorem State.setSp_bootRom (s : State) (v : Word) : (s.setSp v).bootRom = s.bootRom := rfl
@[simp] theorem State.setSp_romLoaded (s : State) (v : Word) : (s.setSp v).romLoaded = s.romLoaded := rfl
@[simp] theorem State.setSp_mem (s : State) (v : Word) : (s.setSp v).mem = s.mem := rfl
@[simp] theorem State.setSp_ppu (s : State) (v : Word) : (s.setSp v).ppu = s.ppu := rfl

/-! ### `State.setPc` -/

@[simp] theorem State.setPc_a (s : State) (v : Word) : (s.setPc v).a = s.a := rfl
@[simp] theorem State.setPc_f (s : State) (v : Word) : (s.setPc v).f = s.f := rfl
@[simp] theorem State.setPc_b (s : State) (v : Word) : (s.setPc v).b = s.b := rfl
@[simp] theorem State.setPc_c (s : State) (v : Word) : (s.setPc v).c = s.c := rfl
@[simp] theorem State.setPc_d (s : State) (v : Word) : (s.setPc v).d = s.d := rfl
@[simp] theorem State.setPc_e (s : State) (v : Word) : (s.setPc v).e = s.e := rfl
@[simp] theorem State.setPc_h (s : State) (v : Word) : (s.setPc v).h = s.h := rfl
@[simp] theorem State.setPc_l (s : State) (v : Word) : (s.setPc v).l = s.l := rfl
@[simp] theorem State.setPc_sp (s : State) (v : Word) : (s.setPc v).sp = s.sp := rfl
@[simp] theorem State.setPc_pc (s : State) (v : Word) : (s.setPc v).pc = v := rfl
@[simp] theorem State.setPc_ime (s : State) (v : Word) : (s.setPc v).ime = s.ime := rfl
@[simp] theorem State.setPc_halted (s : State) (v : Word) : (s.setPc v).halted = s.halted := rfl
@[simp] theorem State.setPc_stopped (s : State) (v : Word) : (s.setPc v).stopped = s.stopped := rfl
@[simp] theorem State.setPc_m (s : State) (v : Word) : (s.setPc v).m = s.m := rfl
@[simp] theorem State.setPc_clk (s : State) (v : Word) : (s.setPc v).clk = s.clk := rfl
@[simp] theorem State.setPc_boot (s : State) (v : Word) : (s.setPc v).boot = s.boot := rfl
@[simp] theorem State.setPc_bootRom (s : State) (v : Word) : (s.setPc v).bootRom = s.bootRom := rfl
@[simp] theorem State.setPc_romLoaded (s : State) (v : Word) : (s.setPc v).romLoaded = s.romLoaded := rfl
@[simp] theorem State.setPc_mem (s : State) (v : Word) : (s.setPc v).mem = s.mem := rfl
@[simp] theorem State.setPc_ppu (s : State) (v : Word) : (s.setPc v).ppu = s.ppu := rfl

/-! ### `State.took` -/

@[simp] theorem State.took_a (s : State) (k : Nat) : (s.took k).a = s.a := rfl
@[simp] theorem State.took_f (s : State) (k : Nat) : (s.took k).f = s.f := rfl
@[simp] theorem State.took_b (s : State) (k : Nat) : (s.took k).b = s.b := rfl
@[simp] theorem State.took_c (s : State) (k : Nat) : (s.took k).c = s.c := rfl
@[simp] theorem State.took_d (s : State) (k : Nat) : (s.took k).d = s.d := rfl
@[simp] theorem State.took_e (s : State) (k : Nat) : (s.took k).e = s.e := rfl
@[simp] theorem State.took_h (s : State) (k : Nat) : (s.took k).h = s.h := rfl
@[simp] theorem State.took_l (s : State) (k : Nat) : (s.took k).l = s.l := rfl
@[simp] theorem State.took_sp (s : State) (k : Nat) : (s.took k).sp = s.sp := rfl
@[simp] theorem State.took_pc (s : State) (k : Nat) : (s.took k).pc = s.pc := rfl
@[simp] theorem State.took_ime (s : State) (k : Nat) : (s.took k).ime = s.ime := rfl
@[simp] theorem State.took_halted (s : State) (k : Nat) : (s.took k).halted = s.halted := rfl
@[simp] theorem State.took_stopped (s : State) (k : Nat) : (s.took k).stopped = s.stopped := rfl
@[simp] theorem State.took_m (s : State) (k : Nat) : (s.took k).m = k := rfl
@[simp] theorem State.took_clk (s : State) (k : Nat) : (s.took k).clk = s.clk := rfl
@[simp] theorem State.took_boot (s : State) (k : Nat) : (s.took k).boot = s.boot := rfl
@[simp] theorem State.took_bootRom (s : State) (k : Nat) : (s.took k).bootRom = s.bootRom := rfl
@[simp] theorem State.took_romLoaded (s : State) (k : Nat) : (s.took k).romLoaded = s.romLoaded := rfl
@[simp] theorem State.took_mem (s : State) (k : Nat) : (s.took k).mem = s.mem := rfl
@[simp] theorem State.took_ppu (s : State) (k : Nat) : (s.took k).ppu = s.ppu := rfl

/-! ### `State.setFlags` -/

@[simp] theorem State.setFlags_a (s : State) (z n h c : Bool) : (s.setFlags z n h c).a = s.a := rfl
@[simp] theorem State.setFlags_f (s : State) (z n h c : Bool) : (s.setFlags z n h c).f = packFlags z n h c s.f := rfl
@[simp] theorem State.setFlags_b (s : State) (z n h c : Bool) : (s.setFlags z n h c).b = s.b := rfl
@[simp] theorem State.setFlags_c (s : State) (z n h c : Bool) : (s.setFlags z n h c).c = s.c := rfl
@[simp] theorem State.setFlags_d (s : State) (z n h c : Bool) : (s.setFlags z n h c).d = s.d := rfl
@[simp] theorem State.setFlags_e (s : State) (z n h c : Bool) : (s.setFlags z n h c).e = s.e := rfl
@[simp] theorem State.setFlags_h (s : State) (z n h c : Bool) : (s.setFlags z n h c).h = s.h := rfl
@[simp] theorem State.setFlags_l (s : State) (z n h c : Bool) : (s.setFlags z n h c).l = s.l := rfl
@[simp] theorem State.setFlags_sp (s : State) (z n h c : Bool) : (s.setFlags z n h c).sp = s.sp := rfl
@[simp] theorem State.setFlags_pc (s : State) (z n h c : Bool) : (s.setFlags z n h c).pc = s.pc := rfl
@[simp] theorem State.setFlags_ime (s : State) (z n h c : Bool) : (s.setFlags z n h c).ime = s.ime := rfl
@[simp] theorem State.setFlags_halted (s : State) (z n h c : Bool) : (s.setFlags z n h c).halted = s.halted := rfl
@[simp] theorem State.setFlags_stopped (s : State) (z n h c : Bool) : (s.setFlags z n h c).stopped = s.stopped := rfl
@[simp] theorem State.setFlags_m (s : State) (z n h c : Bool) : (s.setFlags z n h c).m = s.m := rfl
@[simp] theorem State.setFlags_clk (s : State) (z n h c : Bool) : (s.setFlags z n h c).clk = s.clk := rfl
@[simp] theorem State.setFlags_boot (s : State) (z n h c : Bool) : (s.setFlags z n h c).boot = s.boot := rfl
@[simp] theorem State.setFlags_bootRom (s : State) (z n h c : Bool) : (s.setFlags z n h c).bootRom = s.bootRom := rfl
@[simp] theorem State.setFlags_romLoaded (s : State) (z n h c : Bool) : (s.setFlags z n h c).romLoaded = s.romLoaded := rfl
@[simp] theorem State.setFlags_mem (s : State) (z n h c : Bool) : (s.setFlags z n h c).mem = s.mem := rfl
@[simp] theorem State.setFlags_ppu (s : State) (z n h c : Bool) : (s.setFlags z n h c).ppu = s.ppu := rfl

/-! ### `State.storeCell` -/

@[simp] theorem State.storeCell_a (s : State) (key : Nat) (v : Byte) : (s.storeCell key v).a = s.a := rfl
@[simp] theorem State.storeCell_f (s : State) (key : Nat) (v : Byte) : (s.storeCell key v).f = s.f := rfl
@[simp] theorem State.storeCell_b (s : State) (key : Nat) (v : Byte) : (s.storeCell key v).b = s.b := rfl
@[simp] theorem State.storeCell_c (s : State) (key : Nat) (v : Byte) : (s.storeCell key v).c = s.c := rfl
@[simp] theorem State.storeCell_d (s : State) (key : Nat) (v : Byte) : (s.storeCell key v).d = s.d := rfl
@[simp] theorem State.storeCell_e (s : State) (key : Nat) (v : Byte) : (s.storeCell key v).e = s.e := rfl
@[simp] theorem State.storeCell_h (s : State) (key : Nat) (v : Byte) : (s.storeCell key v).h = s.h := rfl
@[simp] theorem State.storeCell_l (s : State) (key : Nat) (v : Byte) : (s.storeCell key v).l = s.l := rfl
@[simp] theorem State.storeCell_sp (s : State) (key : Nat) (v : Byte) : (s.storeCell key v).sp = s.sp := rfl
@[simp] theorem State.storeCell_pc (s : State) (key : Nat) (v : Byte) : (s.storeCell key v).pc = s.pc := rfl
@[simp] theorem State.storeCell_ime (s : State) (key : Nat) (v : Byte) : (s.storeCell key v).ime = s.ime := rfl
@[simp] theorem State.storeCell_halted (s : State) (key : Nat) (v : Byte) : (s.storeCell key v).halted = s.halted := rfl
@[simp] theorem State.storeCell_stopped (s : State) (key : Nat) (v : Byte) : (s.storeCell key v).stopped = s.stopped := rfl
@[simp] theorem State.storeCell_m (s : State) (key : Nat) (v : Byte) : (s.storeCell key v).m = s.m := rfl
@[simp] theorem State.storeCell_clk (s : State) (key : Nat) (v : Byte) : (s.storeCell key v).clk = s.clk := rfl
@[simp] theorem State.storeCell_boot (s : State) (key : Nat) (v : Byte) : (s.storeCell key v).boot = s.boot := rfl
@[simp] theorem State.storeCell_bootRom (s : State) (key : Nat) (v : Byte) : (s.storeCell key v).bootRom = s.bootRom := rfl
@[simp] theorem State.storeCell_romLoaded (s : State) (key : Nat) (v : Byte) : (s.storeCell key v).romLoaded = s.romLoaded := rfl
@[simp] theorem State.storeCell_mem (s : State) (key : Nat) (v : Byte) : (s.storeCell key v).mem = s.mem.write key v := rfl
@[simp] theorem State.storeCell_ppu (s : State) (key : Nat) (v : Byte) : (s.storeCell key v).ppu = s.ppu := rfl

/-! ### `State.tick` -/

@[simp] theorem State.tick_a (s : State) : (s.tick).a = s.a := rfl
@[simp] theorem State.tick_f (s : State) : (s.tick).f = s.f := rfl
@[simp] theorem State.tick_b (s : State) : (s.tick).b = s.b := rfl
@[simp] theorem State.tick_c (s : State) : (s.tick).c = s.c := rfl
@[simp] theorem State.tick_d (s : State) : (s.tick).d = s.d := rfl
@[simp] theorem State.tick_e (s : State) : (s.tick).e = s.e := rfl
@[simp] theorem State.tick_h (s : State) : (s.tick).h = s.h := rfl
@[simp] theorem State.tick_l (s : State) : (s.tick).l = s.l := rfl
@[simp] theorem State.tick_sp (s : State) : (s.tick).sp = s.sp := rfl
@[simp] theorem State.tick_pc (s : State) : (s.tick).pc = s.pc := rfl
@[simp] theorem State.tick_ime (s : State) : (s.tick).ime = s.ime := rfl
@[simp] theorem State.tick_halted (s : State) : (s.tick).halted = s.halted := rfl
@[simp] theorem State.tick_stopped (s : State) : (s.tick).stopped = s.stopped := rfl
@[simp] theorem State.tick_m (s : State) : (s.tick).m = s.m := rfl
@[simp] theorem State.tick_clk (s : State) : (s.tick).clk = s.clk + s.m := rfl
@[simp] theorem State.tick_boot (s : State) : (s.tick).boot = s.boot := rfl
@[simp] theorem State.tick_bootRom (s : State) : (s.tick).bootRom = s.bootRom := rfl
@[simp] theorem State.tick_romLoaded (s : State) : (s.tick).romLoaded = s.romLoaded := rfl
@[simp] theorem State.tick_mem (s : State) : (s.tick).mem = s.mem := rfl
@[simp] theorem State.tick_ppu (s : State) : (s.tick).ppu = s.ppu := rfl

/-! ### `State.ppuAdvance` -/

@[simp] theorem State.ppuAdvance_a (s : State) : (s.ppuAdvance).a = s.a := rfl
@[simp] theorem State.ppuAdvance_f (s : State) : (s.ppuAdvance).f = s.f := rfl
@[simp] theorem State.ppuAdvance_b (s : State) : (s.ppuAdvance).b = s.b := rfl
@[simp] theorem State.ppuAdvance_c (s : State) : (s.ppuAdvance).c = s.c := rfl
@[simp] theorem State.ppuAdvance_d (s : State) : (s.ppuAdvance).d = s.d := rfl
@[simp] theorem State.ppuAdvance_e (s : State) : (s.ppuAdvance).e = s.e := rfl
@[simp] theorem State.ppuAdvance_h (s : State) : (s.ppuAdvance).h = s.h := rfl
@[simp] theorem State.ppuAdvance_l (s : State) : (s.ppuAdvance).l = s.l := rfl
@[simp] theorem State.ppuAdvance_sp (s : State) : (s.ppuAdvance).sp = s.sp := rfl
@[simp] theorem State.ppuAdvance_pc (s : State) : (s.ppuAdvance).pc = s.pc := rfl
@[simp] theorem State.ppuAdvance_ime (s : State) : (s.ppuAdvance).ime = s.ime := rfl
@[simp] theorem State.ppuAdvance_halted (s : State) : (s.ppuAdvance).halted = s.halted := rfl
@[simp] theorem State.ppuAdvance_stopped (s : State) : (s.ppuAdvance).stopped = s.stopped := rfl
@[simp] theorem State.ppuAdvance_m (s : State) : (s.ppuAdvance).m = s.m := rfl
@[simp] theorem State.ppuAdvance_clk (s : State) : (s.ppuAdvance).clk = s.clk := rfl
@[simp] theorem State.ppuAdvance_boot (s : State) : (s.ppuAdvance).boot = s.boot := rfl
@[simp] theorem State.ppuAdvance_bootRom (s : State) : (s.ppuAdvance).bootRom = s.bootRom := rfl
@[simp] theorem State.ppuAdvance_romLoaded (s : State) : (s.ppuAdvance).romLoaded = s.romLoaded := rfl
@[simp] theorem State.ppuAdvance_mem (s : State) : (s.ppuAdvance).mem = s.mem := rfl
@[simp] theorem State.ppuAdvance_ppu (s : State) : (s.ppuAdvance).ppu = s.ppu.advance s.mem s.m := rfl

/-! ### `State.setReg8`: what it leaves in every case -/

@[simp] theorem State.setReg8_f (s : State) (r : Reg8) (v : Byte) : (s.setReg8 r v).f = s.f := by
  cases r <;> rfl
@[simp] theorem State.setReg8_sp (s : State) (r : Reg8) (v : Byte) : (s.setReg8 r v).sp = s.sp := by
  cases r <;> rfl
@[simp] theorem State.setReg8_pc (s : State) (r : Reg8) (v : Byte) : (s.setReg8 r v).pc = s.pc := by
  cases r <;> rfl
@[simp] theorem State.setReg8_ime (s : State) (r : Reg8) (v : Byte) : (s.setReg8 r v).ime = s.ime := by
  cases r <;> rfl
@[simp] theorem State.setReg8_halted (s : State) (r : Reg8) (v : Byte) : (s.setReg8 r v).halted = s.halted := by
  cases r <;> rfl
@[simp] theorem State.setReg8_stopped (s : State) (r : Reg8) (v : Byte) : (s.setReg8 r v).stopped = s.stopped := by
  cases r <;> rfl
@[simp] theorem State.setReg8_m (s : State) (r : Reg8) (v : Byte) : (s.setReg8 r v).m = s.m := by
  cases r <;> rfl
@[simp] theorem State.setReg8_clk (s : State) (r : Reg8) (v : Byte) : (s.setReg8 r v).clk = s.clk := by
  cases r <;> rfl
@[simp] theorem State.setReg8_boot (s : State) (r : Reg8) (v : Byte) : (s.setReg8 r v).boot = s.boot := by
  cases r <;> rfl
@[simp] theorem State.setReg8_bootRom (s : State) (r : Reg8) (v : Byte) : (s.setReg8 r v).bootRom = s.bootRom := by
  cases r <;> rfl
@[simp] theorem State.setReg8_romLoaded (s : State) (r : Reg8) (v : Byte) : (s.setReg8 r v).romLoaded = s.romLoaded := by
  cases r <;> rfl
@[simp] theorem State.setReg8_mem (s : State) (r : Reg8) (v : Byte) : (s.setReg8 r v).mem = s.mem := by
  cases r <;> rfl
@[simp] theorem State.setReg8_ppu (s : State) (r : Reg8) (v : Byte) : (s.setReg8 r v).ppu = s.ppu := by
  cases r <;> rfl

/-! ### `State.setPair`: what it leaves in every case -/

@[simp] theorem State.setPair_a (s : State) (rp : Pair) (v : Word) : (s.setPair rp v).a = s.a := by
  cases rp <;> rfl
@[simp] theorem State.setPair_f (s : State) (rp : Pair) (v : Word) : (s.setPair rp v).f = s.f := by
  cases rp <;> rfl
@[simp] theorem State.setPair_pc (s : State) (rp : Pair) (v : Word) : (s.setPair rp v).pc = s.pc := by
  cases rp <;> rfl
@[simp] theorem State.setPair_ime (s : State) (rp : Pair) (v : Word) : (s.setPair rp v).ime = s.ime := by
  cases rp <;> rfl
@[simp] theorem State.setPair_halted (s : State) (rp : Pair) (v : Word) : (s.setPair rp v).halted = s.halted := by
  cases rp <;> rfl
@[simp] theorem State.setPair_stopped (s : State) (rp : Pair) (v : Word) : (s.setPair rp v).stopped = s.stopped := by
  cases rp <;> rfl
@[simp] theorem State.setPair_m (s : State) (rp : Pair) (v : Word) : (s.setPair rp v).m = s.m := by
  cases rp <;> rfl
@[simp] theorem State.setPair_clk (s : State) (rp : Pair) (v : Word) : (s.setPair rp v).clk = s.clk := by
  cases rp <;> rfl
@[simp] theorem State.setPair_boot (s : State) (rp : Pair) (v : Word) : (s.setPair rp v).boot = s.boot := by
  cases rp <;> rfl
@[simp] theorem State.setPair_bootRom (s : State) (rp : Pair) (v : Word) : (s.setPair rp v).bootRom = s.bootRom := by
  cases rp <;> rfl
@[simp] theorem State.setPair_romLoaded (s : State) (rp : Pair) (v : Word) : (s.setPair rp v).romLoaded = s.romLoaded := by
  cases rp <;> rfl
@[simp] theorem State.setPair_mem (s : State) (rp : Pair) (v : Word) : (s.setPair rp v).mem = s.mem := by
  cases rp <;> rfl
@[simp] theorem State.setPair_ppu (s : State) (rp : Pair) (v : Word) : (s.setPair rp v).ppu = s.ppu := by
  cases rp <;> rfl

/-! ### `State.setStackPair`: what it leaves in every case -/

@[simp] theorem State.setStackPair_sp (s : State) (q : StackPair) (v : Word) : (s.setStackPair q v).sp = s.sp := by
  cases q <;> rfl
@[simp] theorem State.setStackPair_pc (s : State) (q : StackPair) (v : Word) : (s.setStackPair q v).pc = s.pc := by
  cases q <;> rfl
@[simp] theorem State.setStackPair_ime (s : State) (q : StackPair) (v : Word) : (s.setStackPair q v).ime = s.ime := by
  cases q <;> rfl
@[simp] theorem State.setStackPair_halted (s : State) (q : StackPair) (v : Word) : (s.setStackPair q v).halted = s.halted := by
  cases q <;> rfl
@[simp] theorem State.setStackPair_stopped (s : State) (q : StackPair) (v : Word) : (s.setStackPair q v).stopped = s.stopped := by
  cases q <;> rfl
@[simp] theorem State.setStackPair_m (s : State) (q : StackPair) (v : Word) : (s.setStackPair q v).m = s.m := by
  cases q <;> rfl
@[simp] theorem State.setStackPair_clk (s : State) (q : StackPair) (v : Word) : (s.setStackPair q v).clk = s.clk := by
  cases q <;> rfl
@[simp] theorem State.setStackPair_boot (s : State) (q : StackPair) (v : Word) : (s.setStackPair q v).boot = s.boot := by
  cases q <;> rfl
@[simp] theorem State.setStackPair_bootRom (s : State) (q : StackPair) (v : Word) : (s.setStackPair q v).bootRom = s.bootRom := by
  cases q <;> rfl
@[simp] theorem State.setStackPair_romLoaded (s : State) (q : StackPair) (v : Word) : (s.setStackPair q v).romLoaded = s.romLoaded := by
  cases q <;> rfl
@[simp] theorem State.setStackPair_mem (s : State) (q : StackPair) (v : Word) : (s.setStackPair q v).mem = s.mem := by
  cases q <;> rfl
@[simp] theorem State.setStackPair_ppu (s : State) (q : StackPair) (v : Word) : (s.setStackPair q v).ppu = s.ppu := by
  cases q <;> rfl

end Sys2Proof.Machine
end

