-- ==== Sys2Proof/Laws/Bus.lean ====
section
/-! SUPPORT. What a bus access can do. `busWrite_cases` says everything a write can change; the lemmas after it, one for
each field a write leaves alone, are what later proofs cite. -/

namespace Sys2Proof.Machine

/-! ## Everything a write can do -/

/-- A bus write does nothing, or stores one byte of plain storage, or stores one byte of video RAM, or writes one PPU
register; and which of them, the address says (rule R63). -/
theorem State.busWrite_cases (s : State) (addr : Word) (v : Byte) :
    (s.busWrite addr v = s ∧ stores addr = false) ∨
    (s.busWrite addr v = s.storeCell (backing addr).toNat v ∧ stores addr = true
      ∧ isStorageKey (backing addr).toNat = true ∧ 0xA000 ≤ (backing addr).toNat) ∨
    (∃ off, off < 0x2000 ∧ addr.toNat = 0x8000 + off ∧ s.busWrite addr v = s.storeVram off v) ∨
    (0xFF40 ≤ addr.toNat ∧ addr.toNat ≤ 0xFF47 ∧ s.busWrite addr v = { s with ppu := s.ppu.writeRegister addr.toNat v }) := by
  have bound := addr.isLt
  have ne : ∀ k : Nat, k < 65536 → addr.toNat ≠ k → addr ≠ BitVec.ofNat 16 k := by
    intro k hk h e; apply h; rw [e]; simp; omega
  unfold State.busWrite
  by_cases rom : addr.toNat ≤ 0x7FFF
  · left; refine ⟨by simp [rom], ?_⟩
    have h1 : ¬ (32768 ≤ addr.toNat ∧ addr.toNat ≤ 65183) := by omega
    have h2 : ¬ (65280 ≤ addr.toNat) := by omega
    simp [stores, h2]; intro h; omega
  by_cases vram : addr.toNat ≤ 0x9FFF
  · right; right; left
    refine ⟨addr.toNat - 0x8000, by omega, by omega, by simp [rom, vram]⟩
  by_cases ram : addr.toNat ≤ 0xDFFF
  · right; left
    have key : backing addr = addr := by unfold backing; rw [if_neg (by omega)]
    refine ⟨by simp [rom, vram, ram, key], ?_, ?_, ?_⟩
    · have := ne 0xFF41 (by omega) (by omega); have := ne 0xFF44 (by omega) (by omega)
      have := ne 0xFF45 (by omega) (by omega); have := ne 0xFF46 (by omega) (by omega)
      have h : 32768 ≤ addr.toNat ∧ addr.toNat ≤ 65183 := by omega
      simp_all [stores]
    · rw [key]; simp [isStorageKey]; omega
    · rw [key]; omega
  by_cases mirror : addr.toNat ≤ 0xFDFF
  · right; left
    have key : (backing addr).toNat = addr.toNat - 0x2000 := by
      unfold backing; rw [if_pos (by omega), BitVec.toNat_sub]; simp; omega
    refine ⟨by simp [rom, vram, ram, mirror, key], ?_, ?_, ?_⟩
    · have := ne 0xFF41 (by omega) (by omega); have := ne 0xFF44 (by omega) (by omega)
      have := ne 0xFF45 (by omega) (by omega); have := ne 0xFF46 (by omega) (by omega)
      have h : 32768 ≤ addr.toNat ∧ addr.toNat ≤ 65183 := by omega
      simp_all [stores]
    · rw [key]; simp [isStorageKey]; omega
    · rw [key]; omega
  have key : backing addr = addr := by unfold backing; rw [if_neg (by omega)]
  by_cases oam : addr.toNat ≤ 0xFE9F
  · right; left
    refine ⟨by simp [rom, vram, ram, mirror, oam, key], ?_, ?_, ?_⟩
    · have := ne 0xFF41 (by omega) (by omega); have := ne 0xFF44 (by omega) (by omega)
      have := ne 0xFF45 (by omega) (by omega); have := ne 0xFF46 (by omega) (by omega)
      have h : 32768 ≤ addr.toNat ∧ addr.toNat ≤ 65183 := by omega
      simp_all [stores]
    · rw [key]; simp [isStorageKey]; omega
    · rw [key]; omega
  by_cases hole : addr.toNat ≤ 0xFEFF
  · left; refine ⟨by simp [rom, vram, ram, mirror, oam, hole], ?_⟩
    have h2 : ¬ (65280 ≤ addr.toNat) := by omega
    simp [stores, h2]; intro h; omega
  by_cases reg : 0xFF40 ≤ addr.toNat ∧ addr.toNat ≤ 0xFF47
  · right; right; right
    exact ⟨reg.1, reg.2, by simp [rom, vram, ram, mirror, oam, hole, reg]⟩
  · right; left
    refine ⟨by simp [rom, vram, ram, mirror, oam, hole, reg, key], ?_, ?_, ?_⟩
    · have := ne 0xFF41 (by omega) (by omega); have := ne 0xFF44 (by omega) (by omega)
      have := ne 0xFF45 (by omega) (by omega); have := ne 0xFF46 (by omega) (by omega)
      have h : 65280 ≤ addr.toNat := by omega
      simp_all [stores]
    · rw [key]; simp [isStorageKey]; omega
    · rw [key]; omega

/-- A bus write changes `mem` and `ppu` only. -/
theorem State.busWrite_eq (s : State) (addr : Word) (v : Byte) :
    s.busWrite addr v = { s with mem := (s.busWrite addr v).mem, ppu := (s.busWrite addr v).ppu } := by
  rcases s.busWrite_cases addr v with ⟨e, -⟩ | ⟨e, -⟩ | ⟨off, -, -, e⟩ | ⟨-, -, e⟩ <;> rw [e] <;> rfl

/-! ## What a write leaves alone -/

@[simp] theorem State.busWrite_a (s : State) (addr : Word) (v : Byte) : (s.busWrite addr v).a = s.a := by
  rw [State.busWrite_eq]
@[simp] theorem State.busWrite_f (s : State) (addr : Word) (v : Byte) : (s.busWrite addr v).f = s.f := by
  rw [State.busWrite_eq]
@[simp] theorem State.busWrite_b (s : State) (addr : Word) (v : Byte) : (s.busWrite addr v).b = s.b := by
  rw [State.busWrite_eq]
@[simp] theorem State.busWrite_c (s : State) (addr : Word) (v : Byte) : (s.busWrite addr v).c = s.c := by
  rw [State.busWrite_eq]
@[simp] theorem State.busWrite_d (s : State) (addr : Word) (v : Byte) : (s.busWrite addr v).d = s.d := by
  rw [State.busWrite_eq]
@[simp] theorem State.busWrite_e (s : State) (addr : Word) (v : Byte) : (s.busWrite addr v).e = s.e := by
  rw [State.busWrite_eq]
@[simp] theorem State.busWrite_h (s : State) (addr : Word) (v : Byte) : (s.busWrite addr v).h = s.h := by
  rw [State.busWrite_eq]
@[simp] theorem State.busWrite_l (s : State) (addr : Word) (v : Byte) : (s.busWrite addr v).l = s.l := by
  rw [State.busWrite_eq]
@[simp] theorem State.busWrite_sp (s : State) (addr : Word) (v : Byte) : (s.busWrite addr v).sp = s.sp := by
  rw [State.busWrite_eq]
@[simp] theorem State.busWrite_pc (s : State) (addr : Word) (v : Byte) : (s.busWrite addr v).pc = s.pc := by
  rw [State.busWrite_eq]
@[simp] theorem State.busWrite_ime (s : State) (addr : Word) (v : Byte) : (s.busWrite addr v).ime = s.ime := by
  rw [State.busWrite_eq]
@[simp] theorem State.busWrite_halted (s : State) (addr : Word) (v : Byte) : (s.busWrite addr v).halted = s.halted := by
  rw [State.busWrite_eq]
@[simp] theorem State.busWrite_stopped (s : State) (addr : Word) (v : Byte) : (s.busWrite addr v).stopped = s.stopped := by
  rw [State.busWrite_eq]
@[simp] theorem State.busWrite_m (s : State) (addr : Word) (v : Byte) : (s.busWrite addr v).m = s.m := by
  rw [State.busWrite_eq]
@[simp] theorem State.busWrite_clk (s : State) (addr : Word) (v : Byte) : (s.busWrite addr v).clk = s.clk := by
  rw [State.busWrite_eq]
@[simp] theorem State.busWrite_boot (s : State) (addr : Word) (v : Byte) : (s.busWrite addr v).boot = s.boot := by
  rw [State.busWrite_eq]
@[simp] theorem State.busWrite_bootRom (s : State) (addr : Word) (v : Byte) : (s.busWrite addr v).bootRom = s.bootRom := by
  rw [State.busWrite_eq]
@[simp] theorem State.busWrite_romLoaded (s : State) (addr : Word) (v : Byte) : (s.busWrite addr v).romLoaded = s.romLoaded := by
  rw [State.busWrite_eq]

/-- A register write keeps everything in the PPU but LCDC, SCY, SCX and the palette (rule R308). -/
theorem Ppu.writeRegister_eq (p : Ppu) (addr : Nat) (v : Byte) :
    p.writeRegister addr v =
      { p with
        lcdc := (p.writeRegister addr v).lcdc
        scy := (p.writeRegister addr v).scy
        scx := (p.writeRegister addr v).scx
        pal := (p.writeRegister addr v).pal } := by
  unfold Ppu.writeRegister; repeat' split
  all_goals rfl

@[simp] theorem Ppu.writeRegister_ly (p : Ppu) (addr : Nat) (v : Byte) : (p.writeRegister addr v).ly = p.ly := by
  rw [Ppu.writeRegister_eq]
@[simp] theorem Ppu.writeRegister_mode (p : Ppu) (addr : Nat) (v : Byte) : (p.writeRegister addr v).mode = p.mode := by
  rw [Ppu.writeRegister_eq]
@[simp] theorem Ppu.writeRegister_cnt (p : Ppu) (addr : Nat) (v : Byte) : (p.writeRegister addr v).cnt = p.cnt := by
  rw [Ppu.writeRegister_eq]
@[simp] theorem Ppu.writeRegister_fb (p : Ppu) (addr : Nat) (v : Byte) : (p.writeRegister addr v).fb = p.fb := by
  rw [Ppu.writeRegister_eq]
@[simp] theorem Ppu.writeRegister_out (p : Ppu) (addr : Nat) (v : Byte) : (p.writeRegister addr v).out = p.out := by
  rw [Ppu.writeRegister_eq]
@[simp] theorem Ppu.writeRegister_frames (p : Ppu) (addr : Nat) (v : Byte) : (p.writeRegister addr v).frames = p.frames := by
  rw [Ppu.writeRegister_eq]
@[simp] theorem Ppu.writeRegister_tile (p : Ppu) (addr : Nat) (v : Byte) : (p.writeRegister addr v).tile = p.tile := by
  rw [Ppu.writeRegister_eq]

@[simp] theorem State.busWrite_ppu_ly (s : State) (addr : Word) (v : Byte) :
    (s.busWrite addr v).ppu.ly = s.ppu.ly := by
  rcases s.busWrite_cases addr v with ⟨e, -⟩ | ⟨e, -⟩ | ⟨off, -, -, e⟩ | ⟨-, -, e⟩ <;> rw [e]
  · rfl
  · simp only [State.storeVram]; split <;> rfl
  · simp
@[simp] theorem State.busWrite_ppu_mode (s : State) (addr : Word) (v : Byte) :
    (s.busWrite addr v).ppu.mode = s.ppu.mode := by
  rcases s.busWrite_cases addr v with ⟨e, -⟩ | ⟨e, -⟩ | ⟨off, -, -, e⟩ | ⟨-, -, e⟩ <;> rw [e]
  · rfl
  · simp only [State.storeVram]; split <;> rfl
  · simp
@[simp] theorem State.busWrite_ppu_cnt (s : State) (addr : Word) (v : Byte) :
    (s.busWrite addr v).ppu.cnt = s.ppu.cnt := by
  rcases s.busWrite_cases addr v with ⟨e, -⟩ | ⟨e, -⟩ | ⟨off, -, -, e⟩ | ⟨-, -, e⟩ <;> rw [e]
  · rfl
  · simp only [State.storeVram]; split <;> rfl
  · simp
@[simp] theorem State.busWrite_ppu_fb (s : State) (addr : Word) (v : Byte) :
    (s.busWrite addr v).ppu.fb = s.ppu.fb := by
  rcases s.busWrite_cases addr v with ⟨e, -⟩ | ⟨e, -⟩ | ⟨off, -, -, e⟩ | ⟨-, -, e⟩ <;> rw [e]
  · rfl
  · simp only [State.storeVram]; split <;> rfl
  · simp
@[simp] theorem State.busWrite_ppu_out (s : State) (addr : Word) (v : Byte) :
    (s.busWrite addr v).ppu.out = s.ppu.out := by
  rcases s.busWrite_cases addr v with ⟨e, -⟩ | ⟨e, -⟩ | ⟨off, -, -, e⟩ | ⟨-, -, e⟩ <;> rw [e]
  · rfl
  · simp only [State.storeVram]; split <;> rfl
  · simp
@[simp] theorem State.busWrite_ppu_frames (s : State) (addr : Word) (v : Byte) :
    (s.busWrite addr v).ppu.frames = s.ppu.frames := by
  rcases s.busWrite_cases addr v with ⟨e, -⟩ | ⟨e, -⟩ | ⟨off, -, -, e⟩ | ⟨-, -, e⟩ <;> rw [e]
  · rfl
  · simp only [State.storeVram]; split <;> rfl
  · simp

/-! ## The wider writes -/

@[simp] theorem State.busWriteWord_a (s : State) (addr v : Word) : (s.busWriteWord addr v).a = s.a := by
  simp [State.busWriteWord]
@[simp] theorem State.busWriteWord_f (s : State) (addr v : Word) : (s.busWriteWord addr v).f = s.f := by
  simp [State.busWriteWord]
@[simp] theorem State.busWriteWord_b (s : State) (addr v : Word) : (s.busWriteWord addr v).b = s.b := by
  simp [State.busWriteWord]
@[simp] theorem State.busWriteWord_c (s : State) (addr v : Word) : (s.busWriteWord addr v).c = s.c := by
  simp [State.busWriteWord]
@[simp] theorem State.busWriteWord_d (s : State) (addr v : Word) : (s.busWriteWord addr v).d = s.d := by
  simp [State.busWriteWord]
@[simp] theorem State.busWriteWord_e (s : State) (addr v : Word) : (s.busWriteWord addr v).e = s.e := by
  simp [State.busWriteWord]
@[simp] theorem State.busWriteWord_h (s : State) (addr v : Word) : (s.busWriteWord addr v).h = s.h := by
  simp [State.busWriteWord]
@[simp] theorem State.busWriteWord_l (s : State) (addr v : Word) : (s.busWriteWord addr v).l = s.l := by
  simp [State.busWriteWord]
@[simp] theorem State.busWriteWord_sp (s : State) (addr v : Word) : (s.busWriteWord addr v).sp = s.sp := by
  simp [State.busWriteWord]
@[simp] theorem State.busWriteWord_pc (s : State) (addr v : Word) : (s.busWriteWord addr v).pc = s.pc := by
  simp [State.busWriteWord]
@[simp] theorem State.busWriteWord_ime (s : State) (addr v : Word) : (s.busWriteWord addr v).ime = s.ime := by
  simp [State.busWriteWord]
@[simp] theorem State.busWriteWord_halted (s : State) (addr v : Word) : (s.busWriteWord addr v).halted = s.halted := by
  simp [State.busWriteWord]
@[simp] theorem State.busWriteWord_stopped (s : State) (addr v : Word) : (s.busWriteWord addr v).stopped = s.stopped := by
  simp [State.busWriteWord]
@[simp] theorem State.busWriteWord_m (s : State) (addr v : Word) : (s.busWriteWord addr v).m = s.m := by
  simp [State.busWriteWord]
@[simp] theorem State.busWriteWord_clk (s : State) (addr v : Word) : (s.busWriteWord addr v).clk = s.clk := by
  simp [State.busWriteWord]
@[simp] theorem State.busWriteWord_boot (s : State) (addr v : Word) : (s.busWriteWord addr v).boot = s.boot := by
  simp [State.busWriteWord]
@[simp] theorem State.busWriteWord_bootRom (s : State) (addr v : Word) : (s.busWriteWord addr v).bootRom = s.bootRom := by
  simp [State.busWriteWord]
@[simp] theorem State.busWriteWord_romLoaded (s : State) (addr v : Word) : (s.busWriteWord addr v).romLoaded = s.romLoaded := by
  simp [State.busWriteWord]
@[simp] theorem State.busWriteWord_ppu_ly (s : State) (addr v : Word) : (s.busWriteWord addr v).ppu.ly = s.ppu.ly := by
  simp [State.busWriteWord]
@[simp] theorem State.busWriteWord_ppu_mode (s : State) (addr v : Word) : (s.busWriteWord addr v).ppu.mode = s.ppu.mode := by
  simp [State.busWriteWord]
@[simp] theorem State.busWriteWord_ppu_cnt (s : State) (addr v : Word) : (s.busWriteWord addr v).ppu.cnt = s.ppu.cnt := by
  simp [State.busWriteWord]
@[simp] theorem State.busWriteWord_ppu_fb (s : State) (addr v : Word) : (s.busWriteWord addr v).ppu.fb = s.ppu.fb := by
  simp [State.busWriteWord]
@[simp] theorem State.busWriteWord_ppu_out (s : State) (addr v : Word) : (s.busWriteWord addr v).ppu.out = s.ppu.out := by
  simp [State.busWriteWord]
@[simp] theorem State.busWriteWord_ppu_frames (s : State) (addr v : Word) : (s.busWriteWord addr v).ppu.frames = s.ppu.frames := by
  simp [State.busWriteWord]

@[simp] theorem State.pushWord_a (s : State) (v : Word) : (s.pushWord v).a = s.a := by
  simp [State.pushWord]
@[simp] theorem State.pushWord_f (s : State) (v : Word) : (s.pushWord v).f = s.f := by
  simp [State.pushWord]
@[simp] theorem State.pushWord_b (s : State) (v : Word) : (s.pushWord v).b = s.b := by
  simp [State.pushWord]
@[simp] theorem State.pushWord_c (s : State) (v : Word) : (s.pushWord v).c = s.c := by
  simp [State.pushWord]
@[simp] theorem State.pushWord_d (s : State) (v : Word) : (s.pushWord v).d = s.d := by
  simp [State.pushWord]
@[simp] theorem State.pushWord_e (s : State) (v : Word) : (s.pushWord v).e = s.e := by
  simp [State.pushWord]
@[simp] theorem State.pushWord_h (s : State) (v : Word) : (s.pushWord v).h = s.h := by
  simp [State.pushWord]
@[simp] theorem State.pushWord_l (s : State) (v : Word) : (s.pushWord v).l = s.l := by
  simp [State.pushWord]
@[simp] theorem State.pushWord_pc (s : State) (v : Word) : (s.pushWord v).pc = s.pc := by
  simp [State.pushWord]
@[simp] theorem State.pushWord_ime (s : State) (v : Word) : (s.pushWord v).ime = s.ime := by
  simp [State.pushWord]
@[simp] theorem State.pushWord_halted (s : State) (v : Word) : (s.pushWord v).halted = s.halted := by
  simp [State.pushWord]
@[simp] theorem State.pushWord_stopped (s : State) (v : Word) : (s.pushWord v).stopped = s.stopped := by
  simp [State.pushWord]
@[simp] theorem State.pushWord_m (s : State) (v : Word) : (s.pushWord v).m = s.m := by
  simp [State.pushWord]
@[simp] theorem State.pushWord_clk (s : State) (v : Word) : (s.pushWord v).clk = s.clk := by
  simp [State.pushWord]
@[simp] theorem State.pushWord_boot (s : State) (v : Word) : (s.pushWord v).boot = s.boot := by
  simp [State.pushWord]
@[simp] theorem State.pushWord_bootRom (s : State) (v : Word) : (s.pushWord v).bootRom = s.bootRom := by
  simp [State.pushWord]
@[simp] theorem State.pushWord_romLoaded (s : State) (v : Word) : (s.pushWord v).romLoaded = s.romLoaded := by
  simp [State.pushWord]
@[simp] theorem State.pushWord_ppu_ly (s : State) (v : Word) : (s.pushWord v).ppu.ly = s.ppu.ly := by
  simp [State.pushWord]
@[simp] theorem State.pushWord_ppu_mode (s : State) (v : Word) : (s.pushWord v).ppu.mode = s.ppu.mode := by
  simp [State.pushWord]
@[simp] theorem State.pushWord_ppu_cnt (s : State) (v : Word) : (s.pushWord v).ppu.cnt = s.ppu.cnt := by
  simp [State.pushWord]
@[simp] theorem State.pushWord_ppu_fb (s : State) (v : Word) : (s.pushWord v).ppu.fb = s.ppu.fb := by
  simp [State.pushWord]
@[simp] theorem State.pushWord_ppu_out (s : State) (v : Word) : (s.pushWord v).ppu.out = s.ppu.out := by
  simp [State.pushWord]
@[simp] theorem State.pushWord_ppu_frames (s : State) (v : Word) : (s.pushWord v).ppu.frames = s.ppu.frames := by
  simp [State.pushWord]
@[simp] theorem State.pushWord_sp (s : State) (v : Word) : (s.pushWord v).sp = s.sp - 2 := by
  simp [State.pushWord]

@[simp] theorem State.callTo_a (s : State) (target : Word) : (s.callTo target).a = s.a := by
  simp [State.callTo]
@[simp] theorem State.callTo_f (s : State) (target : Word) : (s.callTo target).f = s.f := by
  simp [State.callTo]
@[simp] theorem State.callTo_b (s : State) (target : Word) : (s.callTo target).b = s.b := by
  simp [State.callTo]
@[simp] theorem State.callTo_c (s : State) (target : Word) : (s.callTo target).c = s.c := by
  simp [State.callTo]
@[simp] theorem State.callTo_d (s : State) (target : Word) : (s.callTo target).d = s.d := by
  simp [State.callTo]
@[simp] theorem State.callTo_e (s : State) (target : Word) : (s.callTo target).e = s.e := by
  simp [State.callTo]
@[simp] theorem State.callTo_h (s : State) (target : Word) : (s.callTo target).h = s.h := by
  simp [State.callTo]
@[simp] theorem State.callTo_l (s : State) (target : Word) : (s.callTo target).l = s.l := by
  simp [State.callTo]
@[simp] theorem State.callTo_ime (s : State) (target : Word) : (s.callTo target).ime = s.ime := by
  simp [State.callTo]
@[simp] theorem State.callTo_halted (s : State) (target : Word) : (s.callTo target).halted = s.halted := by
  simp [State.callTo]
@[simp] theorem State.callTo_stopped (s : State) (target : Word) : (s.callTo target).stopped = s.stopped := by
  simp [State.callTo]
@[simp] theorem State.callTo_m (s : State) (target : Word) : (s.callTo target).m = s.m := by
  simp [State.callTo]
@[simp] theorem State.callTo_clk (s : State) (target : Word) : (s.callTo target).clk = s.clk := by
  simp [State.callTo]
@[simp] theorem State.callTo_boot (s : State) (target : Word) : (s.callTo target).boot = s.boot := by
  simp [State.callTo]
@[simp] theorem State.callTo_bootRom (s : State) (target : Word) : (s.callTo target).bootRom = s.bootRom := by
  simp [State.callTo]
@[simp] theorem State.callTo_romLoaded (s : State) (target : Word) : (s.callTo target).romLoaded = s.romLoaded := by
  simp [State.callTo]
@[simp] theorem State.callTo_ppu_ly (s : State) (target : Word) : (s.callTo target).ppu.ly = s.ppu.ly := by
  simp [State.callTo]
@[simp] theorem State.callTo_ppu_mode (s : State) (target : Word) : (s.callTo target).ppu.mode = s.ppu.mode := by
  simp [State.callTo]
@[simp] theorem State.callTo_ppu_cnt (s : State) (target : Word) : (s.callTo target).ppu.cnt = s.ppu.cnt := by
  simp [State.callTo]
@[simp] theorem State.callTo_ppu_fb (s : State) (target : Word) : (s.callTo target).ppu.fb = s.ppu.fb := by
  simp [State.callTo]
@[simp] theorem State.callTo_ppu_out (s : State) (target : Word) : (s.callTo target).ppu.out = s.ppu.out := by
  simp [State.callTo]
@[simp] theorem State.callTo_ppu_frames (s : State) (target : Word) : (s.callTo target).ppu.frames = s.ppu.frames := by
  simp [State.callTo]
@[simp] theorem State.callTo_sp (s : State) (target : Word) : (s.callTo target).sp = s.sp - 2 := by
  simp [State.callTo]
@[simp] theorem State.callTo_pc (s : State) (target : Word) : (s.callTo target).pc = target := by
  simp [State.callTo]

end Sys2Proof.Machine
end

