-- ==== Sys2Proof/Laws/Access.lean ====
section
/-! SUPPORT. What a bus read can answer, and that every operation which writes memory keeps its canonical form and lists
bytes of arrays only. -/

namespace Sys2Proof.Machine

/-- A bus read answers a boot-ROM byte, a byte of storage, 0 in the hole, or a PPU register; the address and the boot
shadow say which (rule R62). -/
theorem State.busRead_cases (s : State) (addr : Word) :
    (s.boot = true ∧ ∃ low : addr.toNat < 256, s.busRead addr = s.bootRom[addr.toNat]) ∨
    (¬(s.boot = true ∧ addr.toNat < 256) ∧ isStorageKey (backing addr).toNat = true
      ∧ s.busRead addr = s.mem.read (backing addr).toNat) ∨
    (0xFEA0 ≤ addr.toNat ∧ addr.toNat ≤ 0xFEFF ∧ s.busRead addr = 0) ∨
    (0xFF40 ≤ addr.toNat ∧ addr.toNat ≤ 0xFF47 ∧ s.busRead addr = s.ppu.readRegister addr.toNat) := by
  have bound := addr.isLt
  unfold State.busRead
  by_cases shadow : s.boot = true ∧ addr.toNat ≤ 0x00FF
  · left; exact ⟨shadow.1, by omega, by simp [shadow]⟩
  have unshadowed : ¬(s.boot = true ∧ addr.toNat < 256) := fun h => shadow ⟨h.1, by omega⟩
  by_cases low : addr.toNat ≤ 0xDFFF
  · right; left
    have key : backing addr = addr := by unfold backing; rw [if_neg (by omega)]
    exact ⟨unshadowed, by rw [key]; simp [isStorageKey]; omega, by simp only [shadow, low, key, dif_neg, if_true, not_false_eq_true]⟩
  by_cases mirror : addr.toNat ≤ 0xFDFF
  · right; left
    have key : (backing addr).toNat = addr.toNat - 0x2000 := by
      unfold backing; rw [if_pos (by omega), BitVec.toNat_sub]; simp; omega
    exact ⟨unshadowed, by rw [key]; simp [isStorageKey]; omega, by simp [shadow, low, mirror, key]⟩
  have key : backing addr = addr := by unfold backing; rw [if_neg (by omega)]
  by_cases oam : addr.toNat ≤ 0xFE9F
  · right; left
    exact ⟨unshadowed, by rw [key]; simp [isStorageKey]; omega, by simp [shadow, low, mirror, oam, key]⟩
  by_cases hole : addr.toNat ≤ 0xFEFF
  · right; right; left
    exact ⟨by omega, hole, by simp [shadow, low, mirror, oam, hole]⟩
  by_cases reg : 0xFF40 ≤ addr.toNat ∧ addr.toNat ≤ 0xFF47
  · right; right; right
    exact ⟨reg.1, reg.2, by simp [shadow, low, mirror, oam, hole, reg]⟩
  · right; left
    exact ⟨unshadowed, by rw [key]; simp [isStorageKey]; omega, by simp [shadow, low, mirror, oam, hole, reg, key]⟩

/-- A bus read looks at the boot shadow, the boot ROM, the memory and the PPU's registers only. -/
theorem State.busRead_congr {s t : State} (addr : Word) (boot : s.boot = t.boot) (rom : s.bootRom = t.bootRom)
    (mem : s.mem = t.mem) (registers : ∀ a, s.ppu.readRegister a = t.ppu.readRegister a) :
    s.busRead addr = t.busRead addr := by
  simp only [State.busRead, boot, rom, mem, registers]

/-! ## Memory operations keep the canonical form -/

theorem State.wf_storeCell {s : State} (key : Nat) (v : Byte) (ok : s.mem.wf = true) :
    (s.storeCell key v).mem.wf = true := Memory.wf_write key v ok

theorem State.wf_storeVram {s : State} (off : Nat) (v : Byte) (ok : s.mem.wf = true) :
    (s.storeVram off v).mem.wf = true := Memory.wf_write _ v ok

/-- A bus write keeps the canonical form. -/
theorem State.wf_busWrite {s : State} (addr : Word) (v : Byte) (ok : s.mem.wf = true) :
    (s.busWrite addr v).mem.wf = true := by
  rcases s.busWrite_cases addr v with ⟨e, -⟩ | ⟨e, -⟩ | ⟨off, -, -, e⟩ | ⟨-, -, e⟩ <;> rw [e]
  · exact ok
  · exact s.wf_storeCell _ v ok
  · exact s.wf_storeVram off v ok
  · exact ok

theorem State.wf_busWriteWord {s : State} (addr v : Word) (ok : s.mem.wf = true) :
    (s.busWriteWord addr v).mem.wf = true := State.wf_busWrite _ _ (State.wf_busWrite _ _ ok)

theorem State.wf_pushWord {s : State} (v : Word) (ok : s.mem.wf = true) : (s.pushWord v).mem.wf = true :=
  State.wf_busWriteWord _ _ ok

theorem State.wf_callTo {s : State} (target : Word) (ok : s.mem.wf = true) : (s.callTo target).mem.wf = true :=
  State.wf_pushWord (s := s) _ ok

/-- Placing a byte for a fetch keeps the canonical form. -/
theorem State.wf_placeByte {s : State} (addr : Word) (v : Byte) (ok : s.mem.wf = true) :
    (s.placeByte addr v).mem.wf = true := by
  unfold State.placeByte
  dsimp only
  split
  · exact ok
  · split
    · exact s.wf_storeCell _ v ok
    · exact s.wf_busWrite _ v ok

theorem State.wf_placeBytes {s : State} (addr : Word) (bytes : List Byte) (ok : s.mem.wf = true) :
    (s.placeBytes addr bytes).mem.wf = true := by
  induction bytes generalizing s addr with
  | nil => exact ok
  | cons v rest ih => exact ih _ (s.wf_placeByte addr v ok)

/-- Loading a cartridge keeps the canonical form. -/
theorem wf_loadROM {s t : State} (image : List Byte) (ok : s.mem.wf = true) (loaded : loadROM image s = .next t) :
    t.mem.wf = true := by
  unfold loadROM at loaded
  split at loaded
  · cases loaded
  · cases loaded; exact Memory.wf_withRom image ok

/-- The memory after reset is in the canonical form. -/
theorem wf_reset : State.reset.mem.wf = true := rfl

/-! ## Memory operations list bytes of arrays only -/

theorem Memory.onlyStorage_erase {m : Memory} (key : Nat) (ok : m.onlyStorage = true) :
    (m.erase key).onlyStorage = true := by
  induction m with
  | nil => rfl
  | cons cell rest ih =>
    obtain ⟨k, v⟩ := cell
    simp only [Memory.onlyStorage, List.all_cons, Bool.and_eq_true] at ok
    by_cases same : k = key
    · simpa [Memory.erase, same] using ih ok.2
    · simp only [Memory.erase, same, if_false, Memory.onlyStorage, List.all_cons, Bool.and_eq_true]
      exact ⟨ok.1, ih ok.2⟩

theorem Memory.onlyStorage_insert {m : Memory} {key : Nat} (byte : Byte) (here : isStorageKey key = true)
    (ok : m.onlyStorage = true) : (m.insert key byte).onlyStorage = true := by
  induction m with
  | nil => simp [Memory.insert, Memory.onlyStorage, here]
  | cons cell rest ih =>
    obtain ⟨k, v⟩ := cell
    simp only [Memory.onlyStorage, List.all_cons, Bool.and_eq_true] at ok
    by_cases before : key < k
    · simp only [Memory.insert, before, if_true, Memory.onlyStorage, List.all_cons, Bool.and_eq_true]
      exact ⟨here, ok.1, ok.2⟩
    · simp only [Memory.insert, before, if_false, Memory.onlyStorage, List.all_cons, Bool.and_eq_true]
      exact ⟨ok.1, ih ok.2⟩

/-- A write to a byte of an array keeps the memory to bytes of arrays. -/
theorem Memory.onlyStorage_write {m : Memory} {key : Nat} (byte : Byte) (here : isStorageKey key = true)
    (ok : m.onlyStorage = true) : (m.write key byte).onlyStorage = true := by
  unfold Memory.write
  split
  · exact Memory.onlyStorage_erase key ok
  · exact Memory.onlyStorage_insert byte here (Memory.onlyStorage_erase key ok)

/-- A bus write keeps the memory to bytes of arrays. -/
theorem State.onlyStorage_busWrite {s : State} (addr : Word) (v : Byte) (ok : s.mem.onlyStorage = true) :
    (s.busWrite addr v).mem.onlyStorage = true := by
  rcases s.busWrite_cases addr v with ⟨e, -⟩ | ⟨e, -, here, -⟩ | ⟨off, lt, -, e⟩ | ⟨-, -, e⟩ <;> rw [e]
  · exact ok
  · exact Memory.onlyStorage_write v here ok
  · exact Memory.onlyStorage_write v (by simp [isStorageKey]; omega) ok
  · exact ok

end Sys2Proof.Machine
end

