-- ==== Sys2Proof/Laws/Bits.lean ====
section
/-! SUPPORT. Laws of the byte and flag helpers: halves and joins undo each other, and what a packed F reads back as. -/

namespace Sys2Proof

@[simp] theorem hiByte_joinBytes (hi lo : Byte) : hiByte (joinBytes hi lo) = hi := by
  apply BitVec.eq_of_getLsbD_eq; intro i lt
  have bit : (joinBytes hi lo).getLsbD (8 + i) = _ := BitVec.getLsbD_append (x := hi) (y := lo)
  simp only [hiByte, BitVec.getLsbD_extractLsb', lt, decide_true, Bool.true_and, bit]
  simp [lt]

@[simp] theorem loByte_joinBytes (hi lo : Byte) : loByte (joinBytes hi lo) = lo := by
  apply BitVec.eq_of_getLsbD_eq; intro i lt
  have bit : (joinBytes hi lo).getLsbD (0 + i) = _ := BitVec.getLsbD_append (x := hi) (y := lo)
  simp only [loByte, BitVec.getLsbD_extractLsb', lt, decide_true, Bool.true_and, bit]
  simp [lt]

@[simp] theorem joinBytes_halves (v : Word) : joinBytes (hiByte v) (loByte v) = v := by
  apply BitVec.eq_of_getLsbD_eq; intro i lt
  have bit : (joinBytes (hiByte v) (loByte v)).getLsbD i = _ := BitVec.getLsbD_append (x := hiByte v) (y := loByte v)
  rw [bit]
  simp only [hiByte, loByte, BitVec.getLsbD_extractLsb']
  by_cases low : i < 8
  · simp [low]
  · have : i - 8 < 8 := by omega
    simp [low, this]; congr 1; omega

/-- `v[15:8]` as a number. -/
theorem hiByte_toNat (v : Word) : (hiByte v).toNat = v.toNat / 256 := by
  have := v.isLt
  simp [hiByte, BitVec.extractLsb'_toNat, Nat.shiftRight_eq_div_pow]; omega

/-- `v[7:0]` as a number. -/
theorem loByte_toNat (v : Word) : (loByte v).toNat = v.toNat % 256 := by
  simp [loByte, BitVec.extractLsb'_toNat]

/-- `hi ++ lo` as a number. -/
theorem joinBytes_toNat (hi lo : Byte) : (joinBytes hi lo).toNat = 256 * hi.toNat + lo.toNat := by
  have h := hi.isLt; have l := lo.isLt
  simp only [joinBytes, BitVec.toNat_append]
  rw [← Nat.shiftLeft_add_eq_or_of_lt l, Nat.shiftLeft_eq]; omega

/-- A join is decided by its halves. -/
theorem joinBytes_eq_iff (hi lo : Byte) (v : Word) : joinBytes hi lo = v ↔ hi = hiByte v ∧ lo = loByte v := by
  constructor
  · rintro rfl; simp
  · rintro ⟨rfl, rfl⟩; simp

namespace Machine

/-- A packed F as a number. -/
theorem packFlags_toNat (z n h c : Bool) (old : Byte) :
    (packFlags z n h c old).toNat =
      128 * z.toNat + 64 * n.toNat + 32 * h.toNat + 16 * c.toNat + old.toNat % 16 := by
  have low : (old.extractLsb' 0 4).toNat = old.toNat % 16 := by simp [BitVec.extractLsb'_toNat]
  have bound : old.toNat % 16 < 16 := Nat.mod_lt _ (by decide)
  have key : ∀ x : BitVec 4, x.toNat < 16 → ∀ z n h c : Bool,
      (BitVec.ofBool z ++ BitVec.ofBool n ++ BitVec.ofBool h ++ BitVec.ofBool c ++ x).toNat =
        128 * z.toNat + 64 * n.toNat + 32 * h.toNat + 16 * c.toNat + x.toNat := by decide
  rw [← low]; exact key _ (by omega) z n h c

theorem packFlags_bit (z n h c : Bool) (old : Byte) :
    (packFlags z n h c old).getLsbD 7 = z ∧ (packFlags z n h c old).getLsbD 6 = n ∧
    (packFlags z n h c old).getLsbD 5 = h ∧ (packFlags z n h c old).getLsbD 4 = c := by
  simp only [packFlags, BitVec.getLsbD_append]; simp

@[simp] theorem State.flagZ_setFlags (s : State) (z n h c : Bool) : (s.setFlags z n h c).flagZ = z :=
  (packFlags_bit z n h c s.f).1

@[simp] theorem State.flagN_setFlags (s : State) (z n h c : Bool) : (s.setFlags z n h c).flagN = n :=
  (packFlags_bit z n h c s.f).2.1

@[simp] theorem State.flagH_setFlags (s : State) (z n h c : Bool) : (s.setFlags z n h c).flagH = h :=
  (packFlags_bit z n h c s.f).2.2.1

@[simp] theorem State.flagC_setFlags (s : State) (z n h c : Bool) : (s.setFlags z n h c).flagC = c :=
  (packFlags_bit z n h c s.f).2.2.2

/-- Bits 3 to 0 of F are kept (rule R24). -/
theorem packFlags_low (z n h c : Bool) (old : Byte) : (packFlags z n h c old).extractLsb' 0 4 = old.extractLsb' 0 4 := by
  apply BitVec.eq_of_getLsbD_eq; intro i lt
  have bit : (packFlags z n h c old).getLsbD (0 + i) = _ := BitVec.getLsbD_append (y := old.extractLsb' 0 4)
  simp only [BitVec.getLsbD_extractLsb', lt, decide_true, Bool.true_and, bit]
  simp [lt]

end Machine

end Sys2Proof
end

