-- ==== Sys2Proof/Laws/Decode.lean ====
section
/-! SUPPORT. The decoder one format at a time (rule R101): what it answers on a first byte whose cell is known. -/

namespace Sys2Proof

/-- Format `OP`. -/
theorem decode_code {op : Byte} {i : Instr} (rest : List Byte) (cell : primaryCell op = .code i) :
    decode (op :: rest) = .ok (i, rest) := by
  simp only [decode, cell]

/-- Formats `OP_N` and `OP_D`. -/
theorem decode_imm8 {op : Byte} {mk : Byte → Instr} (n : Byte) (rest : List Byte) (cell : primaryCell op = .imm8 mk) :
    decode (op :: n :: rest) = .ok (mk n, rest) := by
  simp only [decode, cell]

/-- Format `OP_NN`: the low byte comes first (rule R104). -/
theorem decode_imm16 {op : Byte} {mk : Word → Instr} (nn : Word) (rest : List Byte)
    (cell : primaryCell op = .imm16 mk) : decode (opNN op nn ++ rest) = .ok (mk nn, rest) := by
  simp only [opNN, List.cons_append, List.nil_append, decode, cell, joinBytes_halves]

/-- Format `CB_OP`. -/
theorem decode_prefixed (op2 : Byte) (rest : List Byte) : decode (0xCB#8 :: op2 :: rest) = .ok (prefixedInstr op2, rest) :=
  rfl

/-- What the step's decoder answers on three bytes is what `decode` answers, and its length is what `decode` takes. -/
theorem decode_decodeInstr (b0 b1 b2 : Byte) :
    decode [b0, b1, b2] = .ok (decodeInstr b0 b1 b2, [b0, b1, b2].drop (decodeLength b0)) := by
  unfold decode decodeInstr decodeLength
  dsimp only
  rcases primaryCell b0 with i | mk | mk | _ <;> rfl

/-- Where an answer of the decoder comes from: one case for each format. -/
theorem decode_cases {bytes rest : List Byte} {i : Instr} (answer : decode bytes = .ok (i, rest)) :
    (∃ op, primaryCell op = .code i ∧ bytes = op :: rest) ∨
    (∃ op mk n, primaryCell op = .imm8 mk ∧ bytes = op :: n :: rest ∧ i = mk n) ∨
    (∃ op mk nn, primaryCell op = .imm16 mk ∧ bytes = opNN op nn ++ rest ∧ i = mk nn) ∨
    (∃ op op2, primaryCell op = .cbPrefix ∧ bytes = op :: op2 :: rest ∧ i = prefixedInstr op2) := by
  rcases bytes with _ | ⟨op, tail⟩
  · cases answer
  rcases cell : primaryCell op with j | mk | mk | _
  · rw [decode_code tail cell] at answer
    cases answer; exact .inl ⟨op, cell, rfl⟩
  · rcases tail with _ | ⟨n, tail⟩
    · simp only [decode, cell] at answer; cases answer
    rw [decode_imm8 n tail cell] at answer
    cases answer; exact .inr (.inl ⟨op, mk, n, cell, rfl, rfl⟩)
  · rcases tail with _ | ⟨lo, _ | ⟨hi, tail⟩⟩
    · simp only [decode, cell] at answer; cases answer
    · simp only [decode, cell] at answer; cases answer
    have bytes : op :: lo :: hi :: tail = opNN op (joinBytes hi lo) ++ tail := by simp [opNN]
    rw [bytes, decode_imm16 _ tail cell] at answer
    cases answer; exact .inr (.inr (.inl ⟨op, mk, _, cell, bytes, rfl⟩))
  · rcases tail with _ | ⟨op2, tail⟩
    · simp only [decode, cell] at answer; cases answer
    simp only [decode, cell] at answer
    cases answer; exact .inr (.inr (.inr ⟨op, op2, cell, rfl, rfl⟩))

end Sys2Proof
end

