-- ==== Sys2Proof/Laws/Exec.lean ====
section
/-! SUPPORT. `exec` through the operand fields. An instruction's meaning is the operation of its rule, so what holds of
each `Form` holds of all 512 rows: a proof about `exec` rewrites with `exec_eq_perform` and then has one case for each
rule instead of one for each row. -/

namespace Sys2Proof.Machine

/-- The operation of a form's rule. -/
def perform : Form → State → State
  | .nop => nop
  | .halt => halt
  | .stop => stop
  | .di => disableInterrupts
  | .ei => enableInterrupts
  | .unmapped _ => unmappedNop
  | .ldRegReg dst src => ldRegReg dst src
  | .ldRegImm dst n => ldRegImm dst n
  | .ldRegAtHl dst => ldRegAtHl dst
  | .ldAtHlReg src => ldAtHlReg src
  | .ldAtHlImm n => ldAtHlImm n
  | .ldAAtBc => ldAAtBc
  | .ldAAtDe => ldAAtDe
  | .ldAtBcA => ldAtBcA
  | .ldAtDeA => ldAtDeA
  | .ldAAtNn nn => ldAAtNn nn
  | .ldAtNnA nn => ldAtNnA nn
  | .ldhAAtN n => ldhAAtN n
  | .ldhAtNA n => ldhAtNA n
  | .ldhAAtC => ldhAAtC
  | .ldhAtCA => ldhAtCA
  | .ldAtHlIncA => ldAtHlIncA
  | .ldAAtHlInc => ldAAtHlInc
  | .ldAtHlDecA => ldAtHlDecA
  | .ldAAtHlDec => ldAAtHlDec
  | .ldPairImm rp nn => ldPairImm rp nn
  | .ldAtNnSp nn => ldAtNnSp nn
  | .ldSpHl => ldSpHl
  | .ldHlSpDisp d => ldHlSpDisp d
  | .push q => push q
  | .pop q => pop q
  | .aluReg op r => aluReg op r
  | .aluAtHl op => aluAtHl op
  | .aluImm op n => aluImm op n
  | .incReg r => incReg r
  | .incAtHl => incAtHl
  | .decReg r => decReg r
  | .decAtHl => decAtHl
  | .daa => decimalAdjust
  | .cpl => complementA
  | .scf => setCarry
  | .ccf => complementCarry
  | .addHl rp => addHl rp
  | .incPair rp => incPair rp
  | .decPair rp => decPair rp
  | .addSpDisp d => addSpDisp d
  | .rlca => rlca
  | .rrca => rrca
  | .rla => rla
  | .rra => rra
  | .rot op o => rotateOperand op o
  | .bitTest b o => bitTest b o
  | .bitRes b o => bitRes b o
  | .bitSet b o => bitSet b o
  | .jp nn => jp nn
  | .jpCond cc nn => jpCond cc nn
  | .jpHl => jpHl
  | .jr d => jr d
  | .jrCond cc d => jrCond cc d
  | .call nn => call nn
  | .callCond cc nn => callCond cc nn
  | .ret => ret
  | .retCond cc => retCond cc
  | .rst t => rst t
  | .reti => reti
  | .prefixCb op2 => prefixed op2

set_option maxRecDepth 4000 in
/-- Every row's meaning is the operation of its form. -/
theorem exec_eq_perform (i : Instr) (s : State) : exec i s = .next (perform i.form s) := by
  cases i <;> rfl

/-- The operation behind the prefix, group by group of rule R107. -/
theorem prefixed_cases (op2 : Byte) :
    (op2.toNat < 0x40 ∧ prefixed op2 = rotateOperand (rotOf (op2.toNat / 8 % 8)) (operandOf (op2.toNat % 8))) ∨
    (0x40 ≤ op2.toNat ∧ op2.toNat < 0x80 ∧ ∃ b, prefixed op2 = bitTest b (operandOf (op2.toNat % 8))) ∨
    (0x80 ≤ op2.toNat ∧ op2.toNat < 0xC0 ∧ ∃ b, prefixed op2 = bitRes b (operandOf (op2.toNat % 8))) ∨
    (0xC0 ≤ op2.toNat ∧ ∃ b, prefixed op2 = bitSet b (operandOf (op2.toNat % 8))) := by
  unfold prefixed
  rcases group : op2.toNat / 64 with _ | _ | _ | k
  · exact .inl ⟨by omega, rfl⟩
  · exact .inr (.inl ⟨by omega, by omega, _, rfl⟩)
  · exact .inr (.inr (.inl ⟨by omega, by omega, _, rfl⟩))
  · exact .inr (.inr (.inr ⟨by omega, _, rfl⟩))

/-- The field `z` names `(HL)` exactly when it is 6 (rule R107). -/
theorem operandOf_cases (z : Nat) (lt : z < 8) :
    (z = 6 ∧ operandOf z = .atHl) ∨ (z ≠ 6 ∧ ∃ r, operandOf z = .reg r) := by
  unfold operandOf
  interval_cases z <;> simp

/-! ## A step in its parts -/

/-- A CPU step: the fetched instruction, and its cost added to CLK (rule R100). -/
theorem cpuStep_eq (s : State) : cpuStep s = .next (perform s.shadowCheck.fetched.form s.readyToRun).tick := by
  simp only [cpuStep, exec_eq_perform]

/-- A machine step: the CPU step, then the PPU (rule R340). -/
theorem step_eq (s : State) :
    step s = .next (perform s.shadowCheck.fetched.form s.readyToRun).tick.ppuAdvance := by
  simp only [step, cpuStep_eq]

/-- Where the next state of a step comes from. -/
theorem step_next {s t : State} (next : step s = .next t) :
    t = (perform s.shadowCheck.fetched.form s.readyToRun).tick.ppuAdvance := by
  rw [step_eq] at next; exact (Host.Outcome.next.inj next).symm

end Sys2Proof.Machine
end

