-- ==== Sys2Proof/Laws/Ppu.lean ====
section
/-! SUPPORT. What the picture-processing unit does: each thing `advance` can be said once, the decoded row bit by bit,
and that the tile cache stays the decoded tile data under every write to video RAM. -/

namespace Sys2Proof.Machine

/-! ## Tile decoder -/

/-- A decoded shade, bit by bit (rule R320). -/
theorem decodeRow_get (lo hi : Byte) (x : Nat) (lt : x < 8) :
    ((decodeRow lo hi)[x]).toNat = (lo.getLsbD (7 - x)).toNat + 2 * (hi.getLsbD (7 - x)).toNat := by
  have pair : ∀ p q : Bool, (BitVec.ofBool p ++ BitVec.ofBool q : BitVec 2).toNat = q.toNat + 2 * p.toNat := by decide
  simp only [decodeRow, Vector.getElem_ofFn]
  exact pair _ _

/-- A cache after one row is decoded: that row, and every other row as it was (rule R320). -/
theorem decodeTileRow_get (mem : Memory) (rel : Nat) (tile : TileCache) (t y : Nat) (ht : t < 384) (hy : y < 8) :
    (decodeTileRow mem rel tile)[t][y] =
      if t = rel / 16 ∧ y = rel / 2 % 8 then
        decodeRow (vramByte mem (rel / 2 * 2)) (vramByte mem (rel / 2 * 2 + 1))
      else tile[t][y] := by
  unfold decodeTileRow
  by_cases inCache : rel / 16 < 384
  · simp only [inCache, dif_pos]
    by_cases sameTile : rel / 16 = t
    · subst sameTile
      by_cases sameRow : rel / 2 % 8 = y
      · subst sameRow; simp
      · simp [Ne.symm sameRow, sameRow]
    · simp [sameTile, Ne.symm sameTile]
  · rw [dif_neg inCache, if_neg]; rintro ⟨rfl, -⟩; exact inCache ht

/-- A byte of video RAM after a write to any cell. -/
theorem vramByte_write (mem : Memory) (key off : Nat) (v : Byte) :
    vramByte (mem.write key v) off = if 0x8000 + off = key then v else vramByte mem off :=
  Memory.read_write mem key _ v

/-- A write outside the tile data leaves the cache right. -/
theorem tilesMatch_write_outside {mem : Memory} {tile : TileCache} (key : Nat) (v : Byte)
    (outside : key < 0x8000 ∨ 0x9800 ≤ key) (ok : tilesMatch mem tile) : tilesMatch (mem.write key v) tile := by
  intro t y x
  have ht := t.isLt; have hy := y.isLt
  rw [vramByte_write, vramByte_write, if_neg (by omega), if_neg (by omega)]
  exact ok t y x

/-- A write to tile data, with its row decoded after it, leaves the cache right (rule R72). -/
theorem tilesMatch_write_inside {mem : Memory} {tile : TileCache} {off : Nat} (v : Byte)
    (ok : tilesMatch mem tile) :
    tilesMatch (mem.write (0x8000 + off) v) (decodeTileRow (mem.write (0x8000 + off) v) off tile) := by
  intro t y x
  have ht := t.isLt; have hy := y.isLt
  have row := decodeTileRow_get (mem.write (0x8000 + off) v) off tile t y ht hy
  simp only [Fin.getElem_fin] at row ⊢
  by_cases here : t.val = off / 16 ∧ y.val = off / 2 % 8
  · rw [if_pos here] at row
    have base : off / 2 * 2 = 16 * t.val + 2 * y.val := by omega
    simp only [row, base]
    exact decodeRow_get _ _ _ x.isLt
  · rw [if_neg here] at row
    simp only [row]
    rw [vramByte_write, vramByte_write, if_neg (by omega), if_neg (by omega)]
    exact ok t y x

/-- A video-RAM store keeps the tile cache right. -/
theorem State.tilesMatch_storeVram {s : State} (off : Nat) (v : Byte)
    (ok : tilesMatch s.mem s.ppu.tile) : tilesMatch (s.storeVram off v).mem (s.storeVram off v).ppu.tile := by
  simp only [State.storeVram]
  by_cases inside : off ≤ 0x17FF
  · simp only [inside, if_true]; exact tilesMatch_write_inside v ok
  · simp only [inside, if_false]; exact tilesMatch_write_outside _ v (by omega) ok

/-- A bus write keeps the tile cache right. -/
theorem State.tilesMatch_busWrite {s : State} (addr : Word) (v : Byte) (ok : tilesMatch s.mem s.ppu.tile) :
    tilesMatch (s.busWrite addr v).mem (s.busWrite addr v).ppu.tile := by
  rcases s.busWrite_cases addr v with ⟨e, -⟩ | ⟨e, -, -, above⟩ | ⟨off, -, -, e⟩ | ⟨-, -, e⟩ <;> rw [e]
  · exact ok
  · exact tilesMatch_write_outside _ v (by omega) ok
  · exact s.tilesMatch_storeVram off v ok
  · simpa using ok

/-! ## Pixel sequencer -/

/-- Rendering changes the frame buffer only. -/
theorem Ppu.renderScanline_eq (p : Ppu) (mem : Memory) :
    p.renderScanline mem = { p with fb := (p.renderScanline mem).fb } := by
  unfold Ppu.renderScanline; split <;> rfl

/-- The frame buffer after a line is rendered (rules R325 and R330). -/
theorem Ppu.renderScanline_fb (p : Ppu) (mem : Memory) (y : Nat) (hy : y < 144) :
    (p.renderScanline mem).fb[y] = if y = p.ly.toNat then p.scanline mem else p.fb[y] := by
  unfold Ppu.renderScanline
  by_cases visible : p.ly.toNat < 144
  · simp only [visible, dif_pos]
    by_cases here : y = p.ly.toNat
    · subst here; simp
    · simp [here, Ne.symm here]
  · rw [dif_neg visible, if_neg (by omega)]

/-! ## Scanline state machine -/

/-- Everything `advance` can do (rule R311). -/
theorem Ppu.advance_cases (p : Ppu) (mem : Memory) (m : Nat) :
    (p.lcdEnabled = false ∧ p.advance mem m = p) ∨
    (p.lcdEnabled = true ∧ p.cnt + 4 * m < p.mode.threshold ∧ p.advance mem m = { p with cnt := p.cnt + 4 * m }) ∨
    (p.lcdEnabled = true ∧ p.mode.threshold ≤ p.cnt + 4 * m ∧ p.advance mem m = { p with cnt := 0 }.leaveMode mem) := by
  unfold Ppu.advance
  by_cases on : p.lcdEnabled = true
  · by_cases reached : p.mode.threshold ≤ p.cnt + 4 * m
    · exact .inr (.inr ⟨on, reached, by simp [on, reached]⟩)
    · exact .inr (.inl ⟨on, by omega, by simp [on, reached]⟩)
  · exact .inl ⟨by simpa using on, by simp [on]⟩

/-- Everything leaving a mode can do (rules R310 to R315). -/
theorem Ppu.leaveMode_cases (p : Ppu) (mem : Memory) :
    (p.mode = .oamSearch ∧ p.leaveMode mem = { p with mode := .pixelTransfer }) ∨
    (p.mode = .pixelTransfer ∧ p.leaveMode mem = { p.renderScanline mem with mode := .hBlank }) ∨
    (p.mode = .hBlank ∧ p.ly.toNat = 143
      ∧ p.leaveMode mem = { p with ly := 144, mode := .vBlank, out := p.fb, frames := p.frames + 1 }) ∨
    (p.mode = .hBlank ∧ p.ly.toNat ≠ 143 ∧ p.leaveMode mem = { p with ly := p.ly + 1, mode := .oamSearch }) ∨
    (p.mode = .vBlank ∧ 153 ≤ p.ly.toNat ∧ p.leaveMode mem = { p with ly := 0, mode := .oamSearch }) ∨
    (p.mode = .vBlank ∧ p.ly.toNat < 153 ∧ p.leaveMode mem = { p with ly := p.ly + 1 }) := by
  have next : p.ly + 1 = 144 ↔ p.ly.toNat = 143 := by
    have := p.ly.isLt
    rw [BitVec.toNat_eq, BitVec.toNat_add]; simp; omega
  unfold Ppu.leaveMode
  rcases mode : p.mode with _ | _ | _ | _
  · simp
  · simp
  · by_cases last : p.ly.toNat = 143
    · have e := next.mpr last
      simp only [e, if_true, Ppu.present]; simp [last]
    · have e : ¬ p.ly + 1 = 144 := fun h => last (next.mp h)
      simp only [e, if_false]; simp [last]
  · by_cases last : 153 ≤ p.ly.toNat
    · have : 153 < p.ly.toNat + 1 := by omega
      simp [last, this]
    · have : ¬ 153 < p.ly.toNat + 1 := by omega
      have : p.ly.toNat < 153 := by omega
      simp [*]

/-- `advance` keeps the registers and the tile cache: it writes MODE, CNT, LY, FB, OUT and FRAMES only. -/
theorem Ppu.advance_eq (p : Ppu) (mem : Memory) (m : Nat) :
    p.advance mem m =
      { p with
        mode := (p.advance mem m).mode
        cnt := (p.advance mem m).cnt
        ly := (p.advance mem m).ly
        fb := (p.advance mem m).fb
        out := (p.advance mem m).out
        frames := (p.advance mem m).frames } := by
  rcases p.advance_cases mem m with ⟨-, e⟩ | ⟨-, -, e⟩ | ⟨-, -, e⟩ <;> rw [e]
  rcases Ppu.leaveMode_cases { p with cnt := 0 } mem with
    ⟨-, e⟩ | ⟨-, e⟩ | ⟨-, -, e⟩ | ⟨-, -, e⟩ | ⟨-, -, e⟩ | ⟨-, -, e⟩ <;> rw [e]
  rw [Ppu.renderScanline_eq]

@[simp] theorem Ppu.advance_lcdc (p : Ppu) (mem : Memory) (m : Nat) : (p.advance mem m).lcdc = p.lcdc := by
  rw [Ppu.advance_eq]
@[simp] theorem Ppu.advance_scy (p : Ppu) (mem : Memory) (m : Nat) : (p.advance mem m).scy = p.scy := by
  rw [Ppu.advance_eq]
@[simp] theorem Ppu.advance_scx (p : Ppu) (mem : Memory) (m : Nat) : (p.advance mem m).scx = p.scx := by
  rw [Ppu.advance_eq]
@[simp] theorem Ppu.advance_pal (p : Ppu) (mem : Memory) (m : Nat) : (p.advance mem m).pal = p.pal := by
  rw [Ppu.advance_eq]
@[simp] theorem Ppu.advance_tile (p : Ppu) (mem : Memory) (m : Nat) : (p.advance mem m).tile = p.tile := by
  rw [Ppu.advance_eq]

/-- `advance` keeps the scanline state machine on its schedule (rule R316). -/
theorem Ppu.OnSchedule.advance {p : Ppu} (ok : p.OnSchedule) (mem : Memory) (m : Nat) :
    (p.advance mem m).OnSchedule := by
  obtain ⟨range, vblank, below⟩ := ok
  have step : ∀ k : Nat, p.ly.toNat = k → k ≤ 152 → (p.ly + 1).toNat = k + 1 := by
    intro k h hk; rw [BitVec.toNat_add, h]; simp; omega
  rcases p.advance_cases mem m with ⟨-, e⟩ | ⟨-, lt, e⟩ | ⟨-, -, e⟩ <;> rw [e]
  · exact ⟨range, vblank, below⟩
  · exact ⟨range, vblank, lt⟩
  rcases Ppu.leaveMode_cases { p with cnt := 0 } mem with
    ⟨mode, e⟩ | ⟨mode, e⟩ | ⟨mode, last, e⟩ | ⟨mode, last, e⟩ | ⟨mode, last, e⟩ | ⟨mode, last, e⟩ <;>
    rw [e] <;> change p.mode = _ at mode <;> rw [mode] at vblank
  · exact ⟨range, by simpa using vblank, by simp [PpuMode.threshold]⟩
  · rw [Ppu.renderScanline_eq]; exact ⟨range, by simpa using vblank, by simp [PpuMode.threshold]⟩
  · exact ⟨by simp, by simp, by simp [PpuMode.threshold]⟩
  · change p.ly.toNat ≠ 143 at last
    have lt : p.ly.toNat < 144 := by simpa using vblank
    have := step _ rfl (by omega)
    refine ⟨?_, ?_, by simp [PpuMode.threshold]⟩ <;> simp only [this]
    · omega
    · simp; omega
  · exact ⟨by simp, by simp, by simp [PpuMode.threshold]⟩
  · change p.ly.toNat < 153 at last
    have ge : 144 ≤ p.ly.toNat := by simpa using vblank
    have := step _ rfl (by omega)
    refine ⟨?_, ?_, ?_⟩ <;> simp only [this, mode]
    · omega
    · simp; omega
    · simp [PpuMode.threshold]

end Sys2Proof.Machine
end

