-- ==== Sys2Proof/Tests/Slice0.lean ====
section
/-! SUPPORT. The model's own tests. Expected results come from the spec: the opcode tables of rules R105 and R107, and the
vectors of spec/95_test_vectors.md, whose ids stand in the names. The last part shows, for each statement that has
hypotheses, states and operands that meet them. -/

namespace Sys2Proof.Tests

open Sys2Proof.Machine Sys2Proof.Claims

/-! ## Well-formed terms -/

theorem test_wellFormed_refuses_bare_prefix : (Instr.prefixCb 0x37).wellFormed = false := by decide
theorem test_wellFormed_admits_swapA : Instr.swapA.wellFormed = true := by decide
theorem test_decode_refuses_no_bytes : decode [] = .error .noByte := by rfl
theorem test_decode_refuses_cut_operand : decode [0xC3, 0x50] = .error .cutShort := by rfl

/-! ## Words written out from the opcode tables: every row but `PREFIX CB`, which no word decodes to (rule R113) -/

/-- Each byte list decodes to its instruction, to the last byte. -/
def decodeTo (words : List (List Byte × Instr)) : Bool :=
  words.all fun word =>
    match decode word.1 with
    | .ok (i, []) => decide (i = word.2)
    | .ok (_, _ :: _) => false
    | .error _ => false

theorem test_words_00_to_0F : decodeTo
  [([0x00], .nop), ([0x01, 0x34, 0x12], .ldBcNn 0x1234), ([0x02], .ldAtBcA), ([0x03], .incBc), ([0x04], .incB),
   ([0x05], .decB), ([0x06, 0x42], .ldBN 0x42), ([0x07], .rlca), ([0x08, 0x34, 0x12], .ldAtNnSp 0x1234),
   ([0x09], .addHlBc), ([0x0A], .ldAAtBc), ([0x0B], .decBc), ([0x0C], .incC), ([0x0D], .decC),
   ([0x0E, 0x42], .ldCN 0x42), ([0x0F], .rrca)] = true := by decide
theorem test_words_10_to_1F : decodeTo
  [([0x10], .stop), ([0x11, 0x34, 0x12], .ldDeNn 0x1234), ([0x12], .ldAtDeA), ([0x13], .incDe), ([0x14], .incD),
   ([0x15], .decD), ([0x16, 0x42], .ldDN 0x42), ([0x17], .rla), ([0x18, 0xFB], .jrD8 0xFB), ([0x19], .addHlDe),
   ([0x1A], .ldAAtDe), ([0x1B], .decDe), ([0x1C], .incE), ([0x1D], .decE), ([0x1E, 0x42], .ldEN 0x42), ([0x1F], .rra)] = true := by decide
theorem test_words_20_to_2F : decodeTo
  [([0x20, 0xFB], .jrNzD8 0xFB), ([0x21, 0x34, 0x12], .ldHlNn 0x1234), ([0x22], .ldAtHlIncA), ([0x23], .incHl),
   ([0x24], .incH), ([0x25], .decH), ([0x26, 0x42], .ldHN 0x42), ([0x27], .daa), ([0x28, 0xFB], .jrZD8 0xFB),
   ([0x29], .addHlHl), ([0x2A], .ldAAtHlInc), ([0x2B], .decHl), ([0x2C], .incL), ([0x2D], .decL),
   ([0x2E, 0x42], .ldLN 0x42), ([0x2F], .cpl)] = true := by decide
theorem test_words_30_to_3F : decodeTo
  [([0x30, 0xFB], .jrNcD8 0xFB), ([0x31, 0x34, 0x12], .ldSpNn 0x1234), ([0x32], .ldAtHlDecA), ([0x33], .incSp),
   ([0x34], .incAtHl), ([0x35], .decAtHl), ([0x36, 0x42], .ldAtHlN 0x42), ([0x37], .scf),
   ([0x38, 0xFB], .jrCD8 0xFB), ([0x39], .addHlSp), ([0x3A], .ldAAtHlDec), ([0x3B], .decSp), ([0x3C], .incA),
   ([0x3D], .decA), ([0x3E, 0x42], .ldAN 0x42), ([0x3F], .ccf)] = true := by decide
theorem test_words_40_to_4F : decodeTo
  [([0x40], .ldBB), ([0x41], .ldBC), ([0x42], .ldBD), ([0x43], .ldBE), ([0x44], .ldBH), ([0x45], .ldBL),
   ([0x46], .ldBAtHl), ([0x47], .ldBA), ([0x48], .ldCB), ([0x49], .ldCC), ([0x4A], .ldCD), ([0x4B], .ldCE),
   ([0x4C], .ldCH), ([0x4D], .ldCL), ([0x4E], .ldCAtHl), ([0x4F], .ldCA)] = true := by decide
theorem test_words_50_to_5F : decodeTo
  [([0x50], .ldDB), ([0x51], .ldDC), ([0x52], .ldDD), ([0x53], .ldDE), ([0x54], .ldDH), ([0x55], .ldDL),
   ([0x56], .ldDAtHl), ([0x57], .ldDA), ([0x58], .ldEB), ([0x59], .ldEC), ([0x5A], .ldED), ([0x5B], .ldEE),
   ([0x5C], .ldEH), ([0x5D], .ldEL), ([0x5E], .ldEAtHl), ([0x5F], .ldEA)] = true := by decide
theorem test_words_60_to_6F : decodeTo
  [([0x60], .ldHB), ([0x61], .ldHC), ([0x62], .ldHD), ([0x63], .ldHE), ([0x64], .ldHH), ([0x65], .ldHL),
   ([0x66], .ldHAtHl), ([0x67], .ldHA), ([0x68], .ldLB), ([0x69], .ldLC), ([0x6A], .ldLD), ([0x6B], .ldLE),
   ([0x6C], .ldLH), ([0x6D], .ldLL), ([0x6E], .ldLAtHl), ([0x6F], .ldLA)] = true := by decide
theorem test_words_70_to_7F : decodeTo
  [([0x70], .ldAtHlB), ([0x71], .ldAtHlC), ([0x72], .ldAtHlD), ([0x73], .ldAtHlE), ([0x74], .ldAtHlH),
   ([0x75], .ldAtHlL), ([0x76], .halt), ([0x77], .ldAtHlA), ([0x78], .ldAB), ([0x79], .ldAC), ([0x7A], .ldAD),
   ([0x7B], .ldAE), ([0x7C], .ldAH), ([0x7D], .ldAL), ([0x7E], .ldAAtHl), ([0x7F], .ldAA)] = true := by decide
theorem test_words_80_to_8F : decodeTo
  [([0x80], .addAB), ([0x81], .addAC), ([0x82], .addAD), ([0x83], .addAE), ([0x84], .addAH), ([0x85], .addAL),
   ([0x86], .addAAtHl), ([0x87], .addAA), ([0x88], .adcAB), ([0x89], .adcAC), ([0x8A], .adcAD), ([0x8B], .adcAE),
   ([0x8C], .adcAH), ([0x8D], .adcAL), ([0x8E], .adcAAtHl), ([0x8F], .adcAA)] = true := by decide
theorem test_words_90_to_9F : decodeTo
  [([0x90], .subB), ([0x91], .subC), ([0x92], .subD), ([0x93], .subE), ([0x94], .subH), ([0x95], .subL),
   ([0x96], .subAtHl), ([0x97], .subA), ([0x98], .sbcAB), ([0x99], .sbcAC), ([0x9A], .sbcAD), ([0x9B], .sbcAE),
   ([0x9C], .sbcAH), ([0x9D], .sbcAL), ([0x9E], .sbcAAtHl), ([0x9F], .sbcAA)] = true := by decide
theorem test_words_A0_to_AF : decodeTo
  [([0xA0], .andB), ([0xA1], .andC), ([0xA2], .andD), ([0xA3], .andE), ([0xA4], .andH), ([0xA5], .andL),
   ([0xA6], .andAtHl), ([0xA7], .andA), ([0xA8], .xorB), ([0xA9], .xorC), ([0xAA], .xorD), ([0xAB], .xorE),
   ([0xAC], .xorH), ([0xAD], .xorL), ([0xAE], .xorAtHl), ([0xAF], .xorA)] = true := by decide
theorem test_words_B0_to_BF : decodeTo
  [([0xB0], .orB), ([0xB1], .orC), ([0xB2], .orD), ([0xB3], .orE), ([0xB4], .orH), ([0xB5], .orL), ([0xB6], .orAtHl),
   ([0xB7], .orA), ([0xB8], .cpB), ([0xB9], .cpC), ([0xBA], .cpD), ([0xBB], .cpE), ([0xBC], .cpH), ([0xBD], .cpL),
   ([0xBE], .cpAtHl), ([0xBF], .cpA)] = true := by decide
theorem test_words_C0_to_CF : decodeTo
  [([0xC0], .retNz), ([0xC1], .popBc), ([0xC2, 0x34, 0x12], .jpNzNn 0x1234), ([0xC3, 0x34, 0x12], .jpNn 0x1234),
   ([0xC4, 0x34, 0x12], .callNzNn 0x1234), ([0xC5], .pushBc), ([0xC6, 0x42], .addAN 0x42), ([0xC7], .rst00),
   ([0xC8], .retZ), ([0xC9], .ret), ([0xCA, 0x34, 0x12], .jpZNn 0x1234), ([0xCC, 0x34, 0x12], .callZNn 0x1234),
   ([0xCD, 0x34, 0x12], .callNn 0x1234), ([0xCE, 0x42], .adcAN 0x42), ([0xCF], .rst08)] = true := by decide
theorem test_words_D0_to_DF : decodeTo
  [([0xD0], .retNc), ([0xD1], .popDe), ([0xD2, 0x34, 0x12], .jpNcNn 0x1234), ([0xD3], .unmappedD3),
   ([0xD4, 0x34, 0x12], .callNcNn 0x1234), ([0xD5], .pushDe), ([0xD6, 0x42], .subN 0x42), ([0xD7], .rst10),
   ([0xD8], .retC), ([0xD9], .reti), ([0xDA, 0x34, 0x12], .jpCNn 0x1234), ([0xDB], .unmappedDB),
   ([0xDC, 0x34, 0x12], .callCNn 0x1234), ([0xDD], .unmappedDD), ([0xDE, 0x42], .sbcAN 0x42), ([0xDF], .rst18)] = true := by decide
theorem test_words_E0_to_EF : decodeTo
  [([0xE0, 0x42], .ldhAtNA 0x42), ([0xE1], .popHl), ([0xE2], .ldhAtCA), ([0xE3], .unmappedE3), ([0xE4], .unmappedE4),
   ([0xE5], .pushHl), ([0xE6, 0x42], .andN 0x42), ([0xE7], .rst20), ([0xE8, 0xFB], .addSpD8 0xFB), ([0xE9], .jpHl),
   ([0xEA, 0x34, 0x12], .ldAtNnA 0x1234), ([0xEB], .unmappedEB), ([0xEC], .unmappedEC), ([0xED], .unmappedED),
   ([0xEE, 0x42], .xorN 0x42), ([0xEF], .rst28)] = true := by decide
theorem test_words_F0_to_FF : decodeTo
  [([0xF0, 0x42], .ldhAAtN 0x42), ([0xF1], .popAf), ([0xF2], .ldhAAtC), ([0xF3], .di), ([0xF4], .unmappedF4),
   ([0xF5], .pushAf), ([0xF6, 0x42], .orN 0x42), ([0xF7], .rst30), ([0xF8, 0xFB], .ldHlSpD 0xFB), ([0xF9], .ldSpHl),
   ([0xFA, 0x34, 0x12], .ldAAtNn 0x1234), ([0xFB], .ei), ([0xFC], .unmappedFC), ([0xFD], .unmappedFD),
   ([0xFE, 0x42], .cpN 0x42), ([0xFF], .rst38)] = true := by decide
theorem test_words_CB_00_to_0F : decodeTo
  [([0xCB, 0x00], .rlcB), ([0xCB, 0x01], .rlcC), ([0xCB, 0x02], .rlcD), ([0xCB, 0x03], .rlcE), ([0xCB, 0x04], .rlcH),
   ([0xCB, 0x05], .rlcL), ([0xCB, 0x06], .rlcAtHl), ([0xCB, 0x07], .rlcA), ([0xCB, 0x08], .rrcB),
   ([0xCB, 0x09], .rrcC), ([0xCB, 0x0A], .rrcD), ([0xCB, 0x0B], .rrcE), ([0xCB, 0x0C], .rrcH), ([0xCB, 0x0D], .rrcL),
   ([0xCB, 0x0E], .rrcAtHl), ([0xCB, 0x0F], .rrcA)] = true := by decide
theorem test_words_CB_10_to_1F : decodeTo
  [([0xCB, 0x10], .rlB), ([0xCB, 0x11], .rlC), ([0xCB, 0x12], .rlD), ([0xCB, 0x13], .rlE), ([0xCB, 0x14], .rlH),
   ([0xCB, 0x15], .rlL), ([0xCB, 0x16], .rlAtHl), ([0xCB, 0x17], .rlA), ([0xCB, 0x18], .rrB), ([0xCB, 0x19], .rrC),
   ([0xCB, 0x1A], .rrD), ([0xCB, 0x1B], .rrE), ([0xCB, 0x1C], .rrH), ([0xCB, 0x1D], .rrL), ([0xCB, 0x1E], .rrAtHl),
   ([0xCB, 0x1F], .rrA)] = true := by decide
theorem test_words_CB_20_to_2F : decodeTo
  [([0xCB, 0x20], .slaB), ([0xCB, 0x21], .slaC), ([0xCB, 0x22], .slaD), ([0xCB, 0x23], .slaE), ([0xCB, 0x24], .slaH),
   ([0xCB, 0x25], .slaL), ([0xCB, 0x26], .slaAtHl), ([0xCB, 0x27], .slaA), ([0xCB, 0x28], .sraB),
   ([0xCB, 0x29], .sraC), ([0xCB, 0x2A], .sraD), ([0xCB, 0x2B], .sraE), ([0xCB, 0x2C], .sraH), ([0xCB, 0x2D], .sraL),
   ([0xCB, 0x2E], .sraAtHl), ([0xCB, 0x2F], .sraA)] = true := by decide
theorem test_words_CB_30_to_3F : decodeTo
  [([0xCB, 0x30], .swapB), ([0xCB, 0x31], .swapC), ([0xCB, 0x32], .swapD), ([0xCB, 0x33], .swapE),
   ([0xCB, 0x34], .swapH), ([0xCB, 0x35], .swapL), ([0xCB, 0x36], .swapAtHl), ([0xCB, 0x37], .swapA),
   ([0xCB, 0x38], .srlB), ([0xCB, 0x39], .srlC), ([0xCB, 0x3A], .srlD), ([0xCB, 0x3B], .srlE), ([0xCB, 0x3C], .srlH),
   ([0xCB, 0x3D], .srlL), ([0xCB, 0x3E], .srlAtHl), ([0xCB, 0x3F], .srlA)] = true := by decide
theorem test_words_CB_40_to_4F : decodeTo
  [([0xCB, 0x40], .bit0B), ([0xCB, 0x41], .bit0C), ([0xCB, 0x42], .bit0D), ([0xCB, 0x43], .bit0E),
   ([0xCB, 0x44], .bit0H), ([0xCB, 0x45], .bit0L), ([0xCB, 0x46], .bit0AtHl), ([0xCB, 0x47], .bit0A),
   ([0xCB, 0x48], .bit1B), ([0xCB, 0x49], .bit1C), ([0xCB, 0x4A], .bit1D), ([0xCB, 0x4B], .bit1E),
   ([0xCB, 0x4C], .bit1H), ([0xCB, 0x4D], .bit1L), ([0xCB, 0x4E], .bit1AtHl), ([0xCB, 0x4F], .bit1A)] = true := by decide
theorem test_words_CB_50_to_5F : decodeTo
  [([0xCB, 0x50], .bit2B), ([0xCB, 0x51], .bit2C), ([0xCB, 0x52], .bit2D), ([0xCB, 0x53], .bit2E),
   ([0xCB, 0x54], .bit2H), ([0xCB, 0x55], .bit2L), ([0xCB, 0x56], .bit2AtHl), ([0xCB, 0x57], .bit2A),
   ([0xCB, 0x58], .bit3B), ([0xCB, 0x59], .bit3C), ([0xCB, 0x5A], .bit3D), ([0xCB, 0x5B], .bit3E),
   ([0xCB, 0x5C], .bit3H), ([0xCB, 0x5D], .bit3L), ([0xCB, 0x5E], .bit3AtHl), ([0xCB, 0x5F], .bit3A)] = true := by decide
theorem test_words_CB_60_to_6F : decodeTo
  [([0xCB, 0x60], .bit4B), ([0xCB, 0x61], .bit4C), ([0xCB, 0x62], .bit4D), ([0xCB, 0x63], .bit4E),
   ([0xCB, 0x64], .bit4H), ([0xCB, 0x65], .bit4L), ([0xCB, 0x66], .bit4AtHl), ([0xCB, 0x67], .bit4A),
   ([0xCB, 0x68], .bit5B), ([0xCB, 0x69], .bit5C), ([0xCB, 0x6A], .bit5D), ([0xCB, 0x6B], .bit5E),
   ([0xCB, 0x6C], .bit5H), ([0xCB, 0x6D], .bit5L), ([0xCB, 0x6E], .bit5AtHl), ([0xCB, 0x6F], .bit5A)] = true := by decide
theorem test_words_CB_70_to_7F : decodeTo
  [([0xCB, 0x70], .bit6B), ([0xCB, 0x71], .bit6C), ([0xCB, 0x72], .bit6D), ([0xCB, 0x73], .bit6E),
   ([0xCB, 0x74], .bit6H), ([0xCB, 0x75], .bit6L), ([0xCB, 0x76], .bit6AtHl), ([0xCB, 0x77], .bit6A),
   ([0xCB, 0x78], .bit7B), ([0xCB, 0x79], .bit7C), ([0xCB, 0x7A], .bit7D), ([0xCB, 0x7B], .bit7E),
   ([0xCB, 0x7C], .bit7H), ([0xCB, 0x7D], .bit7L), ([0xCB, 0x7E], .bit7AtHl), ([0xCB, 0x7F], .bit7A)] = true := by decide
theorem test_words_CB_80_to_8F : decodeTo
  [([0xCB, 0x80], .res0B), ([0xCB, 0x81], .res0C), ([0xCB, 0x82], .res0D), ([0xCB, 0x83], .res0E),
   ([0xCB, 0x84], .res0H), ([0xCB, 0x85], .res0L), ([0xCB, 0x86], .res0AtHl), ([0xCB, 0x87], .res0A),
   ([0xCB, 0x88], .res1B), ([0xCB, 0x89], .res1C), ([0xCB, 0x8A], .res1D), ([0xCB, 0x8B], .res1E),
   ([0xCB, 0x8C], .res1H), ([0xCB, 0x8D], .res1L), ([0xCB, 0x8E], .res1AtHl), ([0xCB, 0x8F], .res1A)] = true := by decide
theorem test_words_CB_90_to_9F : decodeTo
  [([0xCB, 0x90], .res2B), ([0xCB, 0x91], .res2C), ([0xCB, 0x92], .res2D), ([0xCB, 0x93], .res2E),
   ([0xCB, 0x94], .res2H), ([0xCB, 0x95], .res2L), ([0xCB, 0x96], .res2AtHl), ([0xCB, 0x97], .res2A),
   ([0xCB, 0x98], .res3B), ([0xCB, 0x99], .res3C), ([0xCB, 0x9A], .res3D), ([0xCB, 0x9B], .res3E),
   ([0xCB, 0x9C], .res3H), ([0xCB, 0x9D], .res3L), ([0xCB, 0x9E], .res3AtHl), ([0xCB, 0x9F], .res3A)] = true := by decide
theorem test_words_CB_A0_to_AF : decodeTo
  [([0xCB, 0xA0], .res4B), ([0xCB, 0xA1], .res4C), ([0xCB, 0xA2], .res4D), ([0xCB, 0xA3], .res4E),
   ([0xCB, 0xA4], .res4H), ([0xCB, 0xA5], .res4L), ([0xCB, 0xA6], .res4AtHl), ([0xCB, 0xA7], .res4A),
   ([0xCB, 0xA8], .res5B), ([0xCB, 0xA9], .res5C), ([0xCB, 0xAA], .res5D), ([0xCB, 0xAB], .res5E),
   ([0xCB, 0xAC], .res5H), ([0xCB, 0xAD], .res5L), ([0xCB, 0xAE], .res5AtHl), ([0xCB, 0xAF], .res5A)] = true := by decide
theorem test_words_CB_B0_to_BF : decodeTo
  [([0xCB, 0xB0], .res6B), ([0xCB, 0xB1], .res6C), ([0xCB, 0xB2], .res6D), ([0xCB, 0xB3], .res6E),
   ([0xCB, 0xB4], .res6H), ([0xCB, 0xB5], .res6L), ([0xCB, 0xB6], .res6AtHl), ([0xCB, 0xB7], .res6A),
   ([0xCB, 0xB8], .res7B), ([0xCB, 0xB9], .res7C), ([0xCB, 0xBA], .res7D), ([0xCB, 0xBB], .res7E),
   ([0xCB, 0xBC], .res7H), ([0xCB, 0xBD], .res7L), ([0xCB, 0xBE], .res7AtHl), ([0xCB, 0xBF], .res7A)] = true := by decide
theorem test_words_CB_C0_to_CF : decodeTo
  [([0xCB, 0xC0], .set0B), ([0xCB, 0xC1], .set0C), ([0xCB, 0xC2], .set0D), ([0xCB, 0xC3], .set0E),
   ([0xCB, 0xC4], .set0H), ([0xCB, 0xC5], .set0L), ([0xCB, 0xC6], .set0AtHl), ([0xCB, 0xC7], .set0A),
   ([0xCB, 0xC8], .set1B), ([0xCB, 0xC9], .set1C), ([0xCB, 0xCA], .set1D), ([0xCB, 0xCB], .set1E),
   ([0xCB, 0xCC], .set1H), ([0xCB, 0xCD], .set1L), ([0xCB, 0xCE], .set1AtHl), ([0xCB, 0xCF], .set1A)] = true := by decide
theorem test_words_CB_D0_to_DF : decodeTo
  [([0xCB, 0xD0], .set2B), ([0xCB, 0xD1], .set2C), ([0xCB, 0xD2], .set2D), ([0xCB, 0xD3], .set2E),
   ([0xCB, 0xD4], .set2H), ([0xCB, 0xD5], .set2L), ([0xCB, 0xD6], .set2AtHl), ([0xCB, 0xD7], .set2A),
   ([0xCB, 0xD8], .set3B), ([0xCB, 0xD9], .set3C), ([0xCB, 0xDA], .set3D), ([0xCB, 0xDB], .set3E),
   ([0xCB, 0xDC], .set3H), ([0xCB, 0xDD], .set3L), ([0xCB, 0xDE], .set3AtHl), ([0xCB, 0xDF], .set3A)] = true := by decide
theorem test_words_CB_E0_to_EF : decodeTo
  [([0xCB, 0xE0], .set4B), ([0xCB, 0xE1], .set4C), ([0xCB, 0xE2], .set4D), ([0xCB, 0xE3], .set4E),
   ([0xCB, 0xE4], .set4H), ([0xCB, 0xE5], .set4L), ([0xCB, 0xE6], .set4AtHl), ([0xCB, 0xE7], .set4A),
   ([0xCB, 0xE8], .set5B), ([0xCB, 0xE9], .set5C), ([0xCB, 0xEA], .set5D), ([0xCB, 0xEB], .set5E),
   ([0xCB, 0xEC], .set5H), ([0xCB, 0xED], .set5L), ([0xCB, 0xEE], .set5AtHl), ([0xCB, 0xEF], .set5A)] = true := by decide
theorem test_words_CB_F0_to_FF : decodeTo
  [([0xCB, 0xF0], .set6B), ([0xCB, 0xF1], .set6C), ([0xCB, 0xF2], .set6D), ([0xCB, 0xF3], .set6E),
   ([0xCB, 0xF4], .set6H), ([0xCB, 0xF5], .set6L), ([0xCB, 0xF6], .set6AtHl), ([0xCB, 0xF7], .set6A),
   ([0xCB, 0xF8], .set7B), ([0xCB, 0xF9], .set7C), ([0xCB, 0xFA], .set7D), ([0xCB, 0xFB], .set7E),
   ([0xCB, 0xFC], .set7H), ([0xCB, 0xFD], .set7L), ([0xCB, 0xFE], .set7AtHl), ([0xCB, 0xFF], .set7A)] = true := by decide

/-! ## Words written out field by field (the Encoding clauses) -/

theorem test_bits_ldBA : decode [0b01_000_111] = .ok (.ldBA, []) := by rfl
theorem test_bits_ldAN : decode [0b00_111_110, 0x42] = .ok (.ldAN 0x42, []) := by rfl
theorem test_bits_addHlSp : decode [0b00_11_1_001] = .ok (.addHlSp, []) := by rfl
theorem test_bits_pushAf : decode [0b11_11_0_101] = .ok (.pushAf, []) := by rfl
theorem test_bits_sbcAN : decode [0b11_011_110, 0x05] = .ok (.sbcAN 0x05, []) := by rfl
theorem test_bits_jpCNn : decode [0b11_011_010, 0x50, 0x01] = .ok (.jpCNn 0x0150, []) := by rfl
theorem test_bits_jrNcD8 : decode [0b00_110_000, 0xFE] = .ok (.jrNcD8 0xFE, []) := by rfl
theorem test_bits_rst28 : decode [0b11_101_111] = .ok (.rst28, []) := by rfl
theorem test_bits_srlAtHl : decode [0xCB, 0b00_111_110] = .ok (.srlAtHl, []) := by rfl
theorem test_bits_res5L : decode [0xCB, 0b10_101_101] = .ok (.res5L, []) := by rfl
theorem test_bits_decAtHl : decode [0b00_110_101] = .ok (.decAtHl, []) := by rfl

/-! ## One instruction from the vectors' base state -/

/-- The base state of spec/95_test_vectors.md. -/
def start : State := { State.reset with boot := false, pc := 0xC000, sp := 0xDFF0 }

/-- Bytes written from an address on. -/
def laid (addr : Word) : List Byte → State → State
  | [], s => s
  | v :: rest, s => laid (addr + 1) rest (s.busWrite addr v)

/-- One step that runs the code at `addr`. -/
def ran (addr : Word) (code : List Byte) (s : State) : State :=
  match step { laid addr code s with pc := addr } with
  | .next t => t
  | .fault _ => s
  | .refused _ => s

theorem test_L1_ldBA : let t := ran 0xC000 [0x47] { start with a := 0x42 }
    t.b = 0x42 ∧ t.pc = 0xC001 ∧ t.f = 0x00 ∧ t.m = 1 := by decide
theorem test_L2_ldBB : let t := ran 0xC000 [0x40] { start with b := 0x99 }
    t.pc = 0xC001 ∧ t.f = 0x00 ∧ t.m = 1 := by decide
theorem test_L4_ldAN : let t := ran 0xC000 [0x3E, 0x42] start
    t.a = 0x42 ∧ t.pc = 0xC002 ∧ t.f = 0x00 ∧ t.m = 2 := by decide
theorem test_L6_ldDAtHl : let t := ran 0xC000 [0x56] { start with h := 0xC8, l := 0x00, mem := [(0xC800, 0x77)] }
    t.d = 0x77 ∧ t.pc = 0xC001 ∧ t.f = 0x00 ∧ t.m = 2 := by decide
theorem test_L7_ldAtHlB : let t := ran 0xC000 [0x70] { start with h := 0xC8, l := 0x00, b := 0x12 }
    t.busRead 0xC800 = 0x12 ∧ t.pc = 0xC001 ∧ t.f = 0x00 ∧ t.m = 2 := by decide
theorem test_L8_ldAtHlH : let t := ran 0xC000 [0x74] { start with h := 0xC8, l := 0x34 }
    t.busRead 0xC834 = 0xC8 ∧ t.pc = 0xC001 ∧ t.f = 0x00 ∧ t.m = 2 := by decide
theorem test_L9_ldAtHlN : let t := ran 0xC000 [0x36, 0xAB] { start with h := 0xC8, l := 0x00 }
    t.busRead 0xC800 = 0xAB ∧ t.pc = 0xC002 ∧ t.f = 0x00 ∧ t.m = 3 := by decide
theorem test_L10_ldAAtBc : let t := ran 0xC000 [0x0A] { start with b := 0xC8, c := 0x10, mem := [(0xC810, 0x5C)] }
    t.a = 0x5C ∧ t.pc = 0xC001 ∧ t.f = 0x00 ∧ t.m = 2 := by decide
theorem test_L11_ldAAtDe : let t := ran 0xC000 [0x1A] { start with d := 0xC8, e := 0x11, mem := [(0xC811, 0x6D)] }
    t.a = 0x6D ∧ t.pc = 0xC001 ∧ t.f = 0x00 ∧ t.m = 2 := by decide
theorem test_L12_ldAtBcA : let t := ran 0xC000 [0x02] { start with b := 0xC8, c := 0x12, a := 0x21 }
    t.busRead 0xC812 = 0x21 ∧ t.pc = 0xC001 ∧ t.f = 0x00 ∧ t.m = 2 := by decide
theorem test_L13_ldAtDeA : let t := ran 0xC000 [0x12] { start with d := 0xC8, e := 0x13, a := 0x22 }
    t.busRead 0xC813 = 0x22 ∧ t.pc = 0xC001 ∧ t.f = 0x00 ∧ t.m = 2 := by decide
theorem test_L15_ldAtHlIncA : let t := ran 0xC000 [0x22] { start with h := 0xFF, l := 0xFF, a := 0x1F }
    t.h = 0x00 ∧ t.l = 0x00 ∧ t.busRead 0xFFFF = 0x1F ∧ t.pc = 0xC001 ∧ t.f = 0x00 ∧ t.m = 2 := by decide
theorem test_L16_ldAAtHlInc : let t := ran 0xC000 [0x2A] { start with h := 0xC8, l := 0x21, mem := [(0xC821, 0x44)] }
    t.a = 0x44 ∧ t.l = 0x22 ∧ t.pc = 0xC001 ∧ t.f = 0x00 ∧ t.m = 2 := by decide
theorem test_L17_ldAtHlDecA : let t := ran 0xC000 [0x32] { start with h := 0xC8, l := 0x22, a := 0x55 }
    t.l = 0x21 ∧ t.busRead 0xC822 = 0x55 ∧ t.pc = 0xC001 ∧ t.f = 0x00 ∧ t.m = 2 := by decide
theorem test_L18_ldAAtHlDec : let t := ran 0xC000 [0x3A] { start with h := 0x00, l := 0x00, mem := [(0x0000, 0x9C)] }
    t.a = 0x9C ∧ t.h = 0xFF ∧ t.l = 0xFF ∧ t.pc = 0xC001 ∧ t.f = 0x00 ∧ t.m = 2 := by decide
theorem test_L19_ldAAtNn : let t := ran 0xC000 [0xFA, 0x00, 0xC9] { start with mem := [(0xC900, 0x66)] }
    t.a = 0x66 ∧ t.pc = 0xC003 ∧ t.f = 0x00 ∧ t.m = 4 := by decide
theorem test_L20_ldAtNnA : let t := ran 0xC000 [0xEA, 0x01, 0xC9] { start with a := 0x77 }
    t.busRead 0xC901 = 0x77 ∧ t.pc = 0xC003 ∧ t.f = 0x00 ∧ t.m = 4 := by decide
theorem test_L21_ldAtNnA : let t := ran 0xC000 [0xEA, 0x00, 0x20] { start with a := 0x77 }
    t.pc = 0xC003 ∧ t.f = 0x00 ∧ t.m = 4 ∧ t.busRead 0x0000 = 0 := by decide
theorem test_L22_ldhAtNA : let t := ran 0xC000 [0xE0, 0x80] { start with a := 0x88 }
    t.busRead 0xFF80 = 0x88 ∧ t.pc = 0xC002 ∧ t.f = 0x00 ∧ t.m = 3 := by decide
theorem test_L23_ldhAAtN : let t := ran 0xC000 [0xF0, 0x44] { start with ppu := { start.ppu with ly := 91 } }
    t.a = 0x5B ∧ t.pc = 0xC002 ∧ t.f = 0x00 ∧ t.m = 3 ∧ t.ppu.ly = 91 := by decide
theorem test_L24_ldhAtCA : let t := ran 0xC000 [0xE2] { start with a := 0xE4, c := 0x47 }
    t.busRead 0xFF47 = 0xE4 ∧ t.pc = 0xC001 ∧ t.f = 0x00 ∧ t.m = 2 := by decide
theorem test_L25_ldhAAtC : let t := ran 0xC000 [0xF2] { start with c := 0x85, mem := [(0xFF85, 0x3C)] }
    t.a = 0x3C ∧ t.pc = 0xC001 ∧ t.f = 0x00 ∧ t.m = 2 := by decide
theorem test_L26_ldAtHlA : let t := ran 0xC000 [0x77] { start with h := 0xE0, l := 0x00, a := 0x5E }
    t.busRead 0xC000 = 0x5E ∧ t.pc = 0xC001 ∧ t.f = 0x00 ∧ t.m = 2 := by decide
theorem test_W1_ldBcNn : let t := ran 0xC000 [0x01, 0x34, 0x12] start
    t.b = 0x12 ∧ t.c = 0x34 ∧ t.pc = 0xC003 ∧ t.f = 0x00 ∧ t.m = 3 := by decide
theorem test_W3b_ldAtNnSp : let t := ran 0xC000 [0x08, 0xFF, 0xFF] { start with sp := 0x1234 }
    t.busRead 0xFFFF = 0x34 ∧ t.pc = 0xC003 ∧ t.f = 0x00 ∧ t.m = 5 ∧ t.busRead 0x0000 = 0 := by decide
theorem test_W3c_ldSpHl : let t := ran 0xC000 [0xF9] { start with h := 0xCF, l := 0xFE }
    t.sp = 0xCFFE ∧ t.pc = 0xC001 ∧ t.f = 0x00 ∧ t.m = 2 := by decide
theorem test_W4_pushBc : let t := ran 0xC000 [0xC5] { start with b := 0x12, c := 0x34, sp := 0xD000 }
    t.sp = 0xCFFE ∧ t.busRead 0xCFFE = 0x34 ∧ t.busRead 0xCFFF = 0x12 ∧ t.pc = 0xC001 ∧ t.f = 0x00 ∧ t.m = 4 := by decide
theorem test_W5_popDe : let t := ran 0xC000 [0xD1] { start with sp := 0xCFFE, mem := [(0xCFFE, 0x34), (0xCFFF, 0x12)] }
    t.d = 0x12 ∧ t.e = 0x34 ∧ t.sp = 0xD000 ∧ t.pc = 0xC001 ∧ t.f = 0x00 ∧ t.m = 3 := by decide
theorem test_W6b_popAf : let t := ran 0xC000 [0xF1] { start with sp := 0xCFFE, mem := [(0xCFFE, 0x0F), (0xCFFF, 0xAA)] }
    t.a = 0xAA ∧ t.sp = 0xD000 ∧ t.pc = 0xC001 ∧ t.f = 0x0F ∧ t.m = 3 := by decide
theorem test_W7_popBc : let t := ran 0xC000 [0xC1] { start with sp := 0xFFFF, mem := [(0x0000, 0x12), (0xFFFF, 0x34)] }
    t.b = 0x12 ∧ t.c = 0x34 ∧ t.sp = 0x0001 ∧ t.pc = 0xC001 ∧ t.f = 0x00 ∧ t.m = 3 := by decide
theorem test_W8_pushDe : let t := ran 0xC000 [0xD5] { start with d := 0xAB, e := 0xCD, sp := 0x0001 }
    t.sp = 0xFFFF ∧ t.busRead 0xFFFF = 0xCD ∧ t.pc = 0xC001 ∧ t.f = 0x00 ∧ t.m = 4 ∧ t.busRead 0x0000 = 0 := by decide
theorem test_A1_addAB : let t := ran 0xC000 [0x80] { start with a := 0x3A, b := 0xC6 }
    t.a = 0x00 ∧ t.pc = 0xC001 ∧ t.f = 0xB0 ∧ t.m = 1 := by decide
theorem test_A3_addAA : let t := ran 0xC000 [0x87] { start with a := 0x80 }
    t.a = 0x00 ∧ t.pc = 0xC001 ∧ t.f = 0x90 ∧ t.m = 1 := by decide
theorem test_A5_addAN : let t := ran 0xC000 [0xC6, 0x12] { start with a := 0x3C }
    t.a = 0x4E ∧ t.pc = 0xC002 ∧ t.f = 0x00 ∧ t.m = 2 := by decide
theorem test_A6_adcAB : let t := ran 0xC000 [0x88] { start with a := 0xFF, b := 0x00, f := 0x10 }
    t.a = 0x00 ∧ t.pc = 0xC001 ∧ t.f = 0xB0 ∧ t.m = 1 := by decide
theorem test_A8_adcAE : let t := ran 0xC000 [0x8B] { start with a := 0xE1, e := 0x0F, f := 0x10 }
    t.a = 0xF1 ∧ t.pc = 0xC001 ∧ t.f = 0x20 ∧ t.m = 1 := by decide
theorem test_A9_adcAN : let t := ran 0xC000 [0xCE, 0x05] { start with a := 0x10, f := 0x00 }
    t.a = 0x15 ∧ t.pc = 0xC002 ∧ t.f = 0x00 ∧ t.m = 2 := by decide
theorem test_A12_subB : let t := ran 0xC000 [0x90] { start with a := 0x00, b := 0x01 }
    t.a = 0xFF ∧ t.pc = 0xC001 ∧ t.f = 0x70 ∧ t.m = 1 := by decide
theorem test_A13_subN : let t := ran 0xC000 [0xD6, 0x0F] { start with a := 0x3E }
    t.a = 0x2F ∧ t.pc = 0xC002 ∧ t.f = 0x60 ∧ t.m = 2 := by decide
theorem test_A15_sbcAC : let t := ran 0xC000 [0x99] { start with a := 0x10, c := 0x0F, f := 0x10 }
    t.a = 0x00 ∧ t.pc = 0xC001 ∧ t.f = 0xE0 ∧ t.m = 1 := by decide
theorem test_A17_sbcAN : let t := ran 0xC000 [0xDE, 0x05] { start with a := 0x05, f := 0x10 }
    t.a = 0xFF ∧ t.pc = 0xC002 ∧ t.f = 0x70 ∧ t.m = 2 := by decide
theorem test_A18_andL : let t := ran 0xC000 [0xA5] { start with a := 0x5A, l := 0x3F }
    t.a = 0x1A ∧ t.pc = 0xC001 ∧ t.f = 0x20 ∧ t.m = 1 := by decide
theorem test_A18c_andN : let t := ran 0xC000 [0xE6, 0x81] { start with a := 0xFF }
    t.a = 0x81 ∧ t.pc = 0xC002 ∧ t.f = 0x20 ∧ t.m = 2 := by decide
theorem test_A19b_orB : let t := ran 0xC000 [0xB0] { start with a := 0x00, f := 0xF0 }
    t.pc = 0xC001 ∧ t.f = 0x80 ∧ t.m = 1 := by decide
theorem test_A19d_xorN : let t := ran 0xC000 [0xEE, 0x0F] { start with a := 0xFF }
    t.a = 0xF0 ∧ t.pc = 0xC002 ∧ t.f = 0x00 ∧ t.m = 2 := by decide
theorem test_A19c_xorA : let t := ran 0xC000 [0xAF] { start with a := 0xA5, f := 0xF0 }
    t.a = 0x00 ∧ t.pc = 0xC001 ∧ t.f = 0x80 ∧ t.m = 1 := by decide
theorem test_A19e_orN : let t := ran 0xC000 [0xF6, 0x0A] { start with a := 0x50 }
    t.a = 0x5A ∧ t.pc = 0xC002 ∧ t.f = 0x00 ∧ t.m = 2 := by decide
theorem test_A19g_cpB : let t := ran 0xC000 [0xB8] { start with a := 0x3C, b := 0x40 }
    t.pc = 0xC001 ∧ t.f = 0x50 ∧ t.m = 1 := by decide
theorem test_A19i_cpAtHl : let t := ran 0xC000 [0xBE] { start with a := 0x90, h := 0xFF, l := 0x44, ppu := { start.ppu with ly := 144 } }
    t.pc = 0xC001 ∧ t.f = 0xC0 ∧ t.m = 2 ∧ t.ppu.ly = 144 := by decide
theorem test_A20_incB : let t := ran 0xC000 [0x04] { start with b := 0xFF, f := 0x10 }
    t.b = 0x00 ∧ t.pc = 0xC001 ∧ t.f = 0xB0 ∧ t.m = 1 := by decide
theorem test_A22_incE : let t := ran 0xC000 [0x1C] { start with e := 0x7F, f := 0xD0 }
    t.e = 0x80 ∧ t.pc = 0xC001 ∧ t.f = 0x30 ∧ t.m = 1 := by decide
theorem test_A24_decC : let t := ran 0xC000 [0x0D] { start with c := 0x01, f := 0x10 }
    t.c = 0x00 ∧ t.pc = 0xC001 ∧ t.f = 0xD0 ∧ t.m = 1 := by decide
theorem test_A25_decB : let t := ran 0xC000 [0x05] { start with b := 0x10 }
    t.b = 0x0F ∧ t.pc = 0xC001 ∧ t.f = 0x60 ∧ t.m = 1 := by decide
theorem test_A26_incAtHl : let t := ran 0xC000 [0x34] { start with h := 0xC8, l := 0x00, mem := [(0xC800, 0xFF)] }
    t.busRead 0xC800 = 0x00 ∧ t.pc = 0xC001 ∧ t.f = 0xA0 ∧ t.m = 3 := by decide
theorem test_A27_decAtHl : let t := ran 0xC000 [0x35] { start with h := 0xC8, l := 0x00, mem := [(0xC800, 0x01)] }
    t.busRead 0xC800 = 0x00 ∧ t.pc = 0xC001 ∧ t.f = 0xC0 ∧ t.m = 3 := by decide
theorem test_A28_incAtHl : let t := ran 0xC000 [0x34] { start with h := 0xFF, l := 0x44, ppu := { start.ppu with ly := 15 } }
    t.pc = 0xC001 ∧ t.f = 0x20 ∧ t.m = 3 ∧ t.ppu.ly = 15 := by decide
theorem test_A30_daa : let t := ran 0xC000 [0x27] { start with a := 0x0A, f := 0x00 }
    t.a = 0x10 ∧ t.pc = 0xC001 ∧ t.f = 0x00 ∧ t.m = 1 := by decide
theorem test_A35_daa : let t := ran 0xC000 [0x27] { start with a := 0xFF, f := 0x70 }
    t.a = 0x99 ∧ t.pc = 0xC001 ∧ t.f = 0x50 ∧ t.m = 1 := by decide
theorem test_A41_cpl : let t := ran 0xC000 [0x2F] { start with a := 0xFF, f := 0x00 }
    t.a = 0x00 ∧ t.pc = 0xC001 ∧ t.f = 0x60 ∧ t.m = 1 := by decide
theorem test_A42_scf : let t := ran 0xC000 [0x37] { start with f := 0xE0 }
    t.pc = 0xC001 ∧ t.f = 0x90 ∧ t.m = 1 := by decide
theorem test_A43_ccf : let t := ran 0xC000 [0x3F] { start with f := 0xF0 }
    t.pc = 0xC001 ∧ t.f = 0x80 ∧ t.m = 1 := by decide
theorem test_X1_addHlBc : let t := ran 0xC000 [0x09] { start with h := 0x8A, l := 0x23, b := 0x06, c := 0x05 }
    t.h = 0x90 ∧ t.l = 0x28 ∧ t.pc = 0xC001 ∧ t.f = 0x20 ∧ t.m = 2 := by decide
theorem test_X3_addHlDe : let t := ran 0xC000 [0x19] { start with h := 0xFF, l := 0xFF, d := 0x00, e := 0x01, f := 0x40 }
    t.h = 0x00 ∧ t.l = 0x00 ∧ t.pc = 0xC001 ∧ t.f = 0x30 ∧ t.m = 2 := by decide
theorem test_X5_incBc : let t := ran 0xC000 [0x03] { start with b := 0xFF, c := 0xFF, f := 0xF0 }
    t.b = 0x00 ∧ t.c = 0x00 ∧ t.pc = 0xC001 ∧ t.f = 0xF0 ∧ t.m = 2 := by decide
theorem test_X7_decDe : let t := ran 0xC000 [0x1B] { start with d := 0x00, e := 0x00 }
    t.d = 0xFF ∧ t.e = 0xFF ∧ t.pc = 0xC001 ∧ t.f = 0x00 ∧ t.m = 2 := by decide
theorem test_X9_addSpD8 : let t := ran 0xC000 [0xE8, 0x08] { start with sp := 0xFFF8, f := 0xC0 }
    t.sp = 0x0000 ∧ t.pc = 0xC002 ∧ t.f = 0x30 ∧ t.m = 4 := by decide
theorem test_X10_addSpD8 : let t := ran 0xC000 [0xE8, 0xFF] { start with sp := 0x0000 }
    t.sp = 0xFFFF ∧ t.pc = 0xC002 ∧ t.f = 0x00 ∧ t.m = 4 := by decide
theorem test_X17_ldHlSpD : let t := ran 0xC000 [0xF8, 0xFE] { start with sp := 0xD005, f := 0xF0 }
    t.h = 0xD0 ∧ t.l = 0x03 ∧ t.pc = 0xC002 ∧ t.f = 0x30 ∧ t.m = 3 := by decide
theorem test_X16_ldHlSpD : let t := ran 0xC000 [0xF8, 0x08] { start with sp := 0xFFF8 }
    t.pc = 0xC002 ∧ t.f = 0x30 ∧ t.m = 3 := by decide
theorem test_B1_rlca : let t := ran 0xC000 [0x07] { start with a := 0x85, f := 0xE0 }
    t.a = 0x0B ∧ t.pc = 0xC001 ∧ t.f = 0x10 ∧ t.m = 1 := by decide
theorem test_B2_rrca : let t := ran 0xC000 [0x0F] { start with a := 0x01 }
    t.a = 0x80 ∧ t.pc = 0xC001 ∧ t.f = 0x10 ∧ t.m = 1 := by decide
theorem test_B3b_rla : let t := ran 0xC000 [0x17] { start with a := 0x95, f := 0x10 }
    t.a = 0x2B ∧ t.pc = 0xC001 ∧ t.f = 0x10 ∧ t.m = 1 := by decide
theorem test_B4b_rra : let t := ran 0xC000 [0x1F] { start with a := 0x00, f := 0x10 }
    t.a = 0x80 ∧ t.pc = 0xC001 ∧ t.f = 0x00 ∧ t.m = 1 := by decide
theorem test_B5_rlcB : let t := ran 0xC000 [0xCB, 0x00] { start with b := 0x85 }
    t.b = 0x0B ∧ t.pc = 0xC002 ∧ t.f = 0x10 ∧ t.m = 2 := by decide
theorem test_B6_rrcC : let t := ran 0xC000 [0xCB, 0x09] { start with c := 0x01 }
    t.c = 0x80 ∧ t.pc = 0xC002 ∧ t.f = 0x10 ∧ t.m = 2 := by decide
theorem test_B7_rlD : let t := ran 0xC000 [0xCB, 0x12] { start with d := 0x80, f := 0x00 }
    t.d = 0x00 ∧ t.pc = 0xC002 ∧ t.f = 0x90 ∧ t.m = 2 := by decide
theorem test_B9b_rrL : let t := ran 0xC000 [0xCB, 0x1D] { start with l := 0x8A, f := 0x10 }
    t.l = 0xC5 ∧ t.pc = 0xC002 ∧ t.f = 0x00 ∧ t.m = 2 := by decide
theorem test_B10_slaB : let t := ran 0xC000 [0xCB, 0x20] { start with b := 0x80 }
    t.b = 0x00 ∧ t.pc = 0xC002 ∧ t.f = 0x90 ∧ t.m = 2 := by decide
theorem test_B11_sraB : let t := ran 0xC000 [0xCB, 0x28] { start with b := 0x81 }
    t.b = 0xC0 ∧ t.pc = 0xC002 ∧ t.f = 0x10 ∧ t.m = 2 := by decide
theorem test_B12_srlB : let t := ran 0xC000 [0xCB, 0x38] { start with b := 0x01 }
    t.b = 0x00 ∧ t.pc = 0xC002 ∧ t.f = 0x90 ∧ t.m = 2 := by decide
theorem test_B13_swapA : let t := ran 0xC000 [0xCB, 0x37] { start with a := 0xF1, f := 0xF0 }
    t.a = 0x1F ∧ t.pc = 0xC002 ∧ t.f = 0x00 ∧ t.m = 2 := by decide
theorem test_B14_rlcAtHl : let t := ran 0xC000 [0xCB, 0x06] { start with h := 0xC8, l := 0x00, mem := [(0xC800, 0x85)] }
    t.busRead 0xC800 = 0x0B ∧ t.pc = 0xC002 ∧ t.f = 0x10 ∧ t.m = 4 := by decide
theorem test_B16_srlAtHl : let t := ran 0xC000 [0xCB, 0x3E] { start with h := 0xFF, l := 0x44, ppu := { start.ppu with ly := 3 } }
    t.pc = 0xC002 ∧ t.f = 0x10 ∧ t.m = 4 ∧ t.ppu.ly = 3 := by decide
theorem test_B20_bit7H : let t := ran 0xC000 [0xCB, 0x7C] { start with h := 0x80, f := 0x50 }
    t.pc = 0xC002 ∧ t.f = 0x30 ∧ t.m = 2 := by decide
theorem test_B23_bit4AtHl : let t := ran 0xC000 [0xCB, 0x66] { start with h := 0xC8, l := 0x00, mem := [(0xC800, 0xEF)] }
    t.pc = 0xC002 ∧ t.f = 0xA0 ∧ t.m = 3 := by decide
theorem test_B24_res0A : let t := ran 0xC000 [0xCB, 0x87] { start with a := 0xFF, f := 0xF0 }
    t.a = 0xFE ∧ t.pc = 0xC002 ∧ t.f = 0xF0 ∧ t.m = 2 := by decide
theorem test_B25_res7AtHl : let t := ran 0xC000 [0xCB, 0xBE] { start with h := 0xC8, l := 0x00, mem := [(0xC800, 0xFF)] }
    t.busRead 0xC800 = 0x7F ∧ t.pc = 0xC002 ∧ t.f = 0x00 ∧ t.m = 4 := by decide
theorem test_B26_set7B : let t := ran 0xC000 [0xCB, 0xF8] { start with b := 0x00 }
    t.b = 0x80 ∧ t.pc = 0xC002 ∧ t.f = 0x00 ∧ t.m = 2 := by decide
theorem test_B29_set7AtHl : let t := ran 0xC000 [0xCB, 0xFE] { start with h := 0xFF, l := 0x40, ppu := { start.ppu with lcdc := 0x11 } }
    t.ppu.lcdc = 0x91 ∧ t.pc = 0xC002 ∧ t.f = 0x00 ∧ t.m = 4 := by decide
theorem test_J2_jpZNn : let t := ran 0xC000 [0xCA, 0x00, 0x02] { start with f := 0x80 }
    t.pc = 0x0200 ∧ t.f = 0x80 ∧ t.m = 4 := by decide
theorem test_J4_jpNcNn : let t := ran 0xC000 [0xD2, 0x00, 0x02] { start with f := 0x10 }
    t.pc = 0xC003 ∧ t.f = 0x10 ∧ t.m = 3 := by decide
theorem test_J5_jpHl : let t := ran 0xC000 [0xE9] { start with h := 0xC1, l := 0x23 }
    t.pc = 0xC123 ∧ t.f = 0x00 ∧ t.m = 1 := by decide
theorem test_J8_jrD8 : let t := ran 0xC000 [0x18, 0x80] start
    t.pc = 0xBF82 ∧ t.f = 0x00 ∧ t.m = 3 := by decide
theorem test_J9_jrD8 : let t := ran 0xFFFD [0x18, 0x05] start
    t.pc = 0x0004 ∧ t.f = 0x00 ∧ t.m = 3 := by decide
theorem test_J10_jrNzD8 : let t := ran 0xC000 [0x20, 0xFB] { start with f := 0x00 }
    t.pc = 0xBFFD ∧ t.f = 0x00 ∧ t.m = 3 := by decide
theorem test_J11_jrNzD8 : let t := ran 0xC000 [0x20, 0xFB] { start with f := 0x80 }
    t.pc = 0xC002 ∧ t.f = 0x80 ∧ t.m = 2 := by decide
theorem test_J13_callNn : let t := ran 0xC000 [0xCD, 0x00, 0x02] { start with sp := 0xFFFE }
    t.sp = 0xFFFC ∧ t.busRead 0xFFFC = 0x03 ∧ t.busRead 0xFFFD = 0xC0 ∧ t.pc = 0x0200 ∧ t.f = 0x00 ∧ t.m = 6 := by decide
theorem test_J14_callCNn : let t := ran 0xC000 [0xDC, 0x00, 0x02] { start with f := 0x00 }
    t.pc = 0xC003 ∧ t.f = 0x00 ∧ t.m = 3 := by decide
theorem test_J15_callNzNn : let t := ran 0xC000 [0xC4, 0x34, 0x12] { start with f := 0x00, sp := 0xD000 }
    t.sp = 0xCFFE ∧ t.busRead 0xCFFE = 0x03 ∧ t.busRead 0xCFFF = 0xC0 ∧ t.pc = 0x1234 ∧ t.f = 0x00 ∧ t.m = 6 := by decide
theorem test_J16_ret : let t := ran 0xC000 [0xC9] { start with sp := 0xCFFC, mem := [(0xCFFC, 0x53), (0xCFFD, 0x01)] }
    t.sp = 0xCFFE ∧ t.pc = 0x0153 ∧ t.f = 0x00 ∧ t.m = 4 := by decide
theorem test_J17_retZ : let t := ran 0xC000 [0xC8] { start with f := 0x80, sp := 0xCFFC, mem := [(0xCFFC, 0x53), (0xCFFD, 0x01)] }
    t.sp = 0xCFFE ∧ t.pc = 0x0153 ∧ t.f = 0x80 ∧ t.m = 5 := by decide
theorem test_J18_retZ : let t := ran 0xC000 [0xC8] { start with f := 0x00, sp := 0xCFFC, mem := [(0xCFFC, 0x53), (0xCFFD, 0x01)] }
    t.pc = 0xC001 ∧ t.f = 0x00 ∧ t.m = 2 := by decide
theorem test_J20_reti : let t := ran 0xC000 [0xD9] { start with sp := 0xCFFC, ime := false, mem := [(0xCFFC, 0x53), (0xCFFD, 0x01)] }
    t.sp = 0xCFFE ∧ t.pc = 0x0153 ∧ t.f = 0x00 ∧ t.m = 4 := by decide
theorem test_J21_rst28 : let t := ran 0xC000 [0xEF] { start with sp := 0xD000 }
    t.sp = 0xCFFE ∧ t.busRead 0xCFFE = 0x01 ∧ t.busRead 0xCFFF = 0xC0 ∧ t.pc = 0x0028 ∧ t.f = 0x00 ∧ t.m = 4 := by decide
theorem test_J1_jpNn : let t := ran 0xC000 [0xC3, 0x50, 0x01] start
    t.pc = 0x0150 ∧ t.f = 0x00 ∧ t.m = 4 := by decide
theorem test_Z1_nop : let t := ran 0xC000 [0x00] { start with f := 0xF0 }
    t.pc = 0xC001 ∧ t.f = 0xF0 ∧ t.m = 1 := by decide
theorem test_Z4_ei : let t := ran 0xC000 [0xFB] start
    t.ime = true ∧ t.pc = 0xC001 ∧ t.f = 0x00 ∧ t.m = 1 := by decide
theorem test_Z5_di : let t := ran 0xC000 [0xF3] { start with ime := true }
    t.ime = false ∧ t.pc = 0xC001 ∧ t.f = 0x00 ∧ t.m = 1 := by decide
theorem test_Z6_unmappedD3 : let t := ran 0xC000 [0xD3] { start with a := 0x12, f := 0xF0 }
    t.pc = 0xC001 ∧ t.f = 0xF0 ∧ t.m = 1 := by decide


/-! ## The bus, the boot shadow and the loader -/

theorem test_M1_mirror : let s := start.busWrite 0xE123 0x5A
    s.busRead 0xC123 = 0x5A ∧ s.busRead 0xE123 = 0x5A := by decide
theorem test_M4_hole : let s := (start.busWrite 0xFEA0 0x77).busWrite 0xFE9F 0x77
    s.busRead 0xFEA0 = 0 ∧ s.busRead 0xFEFF = 0 ∧ s.busRead 0xFE9F = 0x77 := by decide
theorem test_M6_absent_registers : let s := (start.busWrite 0xFF41 0xFF).busWrite 0xFF46 0xC0
    s.busRead 0xFF41 = 0 ∧ s.busRead 0xFF45 = 0 ∧ s.busRead 0xFF46 = 0 := by decide
theorem test_M11_word_wraps : let s := { start with mem := [(0, 0x9A)] }.busWriteWord 0xFFFF 0x1234
    s.busRead 0xFFFF = 0x34 ∧ s.busRead 0 = 0x9A ∧ s.busReadWord 0xFFFF = 0x9A34 := by decide
theorem test_M13_palette : let s := start.busWrite 0xFF47 0x1B
    s.busRead 0xFF47 = 0x1B ∧ s.ppu.pal = #v[3, 2, 1, 0] := by decide
theorem test_M5_boot_shadow : let s := { start with boot := true, bootRom := .replicate 256 0xAA, mem := [(0x50, 0xBB)] }
    s.busRead 0x50 = 0xAA ∧ { s with boot := false }.busRead 0x50 = 0xBB := by decide
theorem test_R66_shadow_cleared_past_00FF :
    (ran 0xC000 [0x00] { start with boot := true }).boot = false := by decide
theorem test_S15_short_rom_is_zero_filled : let m := Memory.withRom [(0x0007, 0xFF), (0xC000, 0x11)] [0x3E, 0x42, 0x47]
    m = [(0, 0x3E), (1, 0x42), (2, 0x47), (0xC000, 0x11)] := by decide
theorem test_U9_second_load_is_refused :
    loadROM [0x3E] { start with romLoaded := true } = .refused .romLoadedTwiceOrLate := by rfl
theorem test_memory_write_of_zero_leaves_no_cell : Memory.write [(3, 1), (5, 2)] 3 0 = [(5, 2)] := by decide
theorem test_memory_write_keeps_order : Memory.write [(3, 1), (9, 2)] 5 7 = [(3, 1), (5, 7), (9, 2)] := by decide

/-! ## The picture-processing unit -/

theorem test_V10_decodeTileRow : ((laid 0x8010 [0x3C, 0x7E] start).ppu.tile[1])[0] = #v[0, 2, 3, 3, 3, 3, 2, 0] := by decide
theorem test_V13_decodeTileRow : ((laid 0x8000 [0xA5, 0x0F] start).ppu.tile[0])[0] = #v[1, 0, 1, 0, 2, 3, 2, 3] := by decide
theorem test_V11_last_tile_row : ((start.busWrite 0x97FF 0x81).ppu.tile[383])[7] = #v[2, 0, 0, 0, 0, 0, 0, 2] := by decide

/-- Pixels 0 to 7 of line 0 with tile 1, tile 128 and tile 261 of the rendering set-up, row 0 only. -/
def drawn (lcdc scx map : Byte) : List Shade :=
  let s := laid 0x9800 [map, 2] (laid 0x9050 [0xFF, 0xFF] (laid 0x8801 [0xFF] (laid 0x8020 [0xFF] (laid 0x8010 [0x3C, 0x7E] start))))
  let p := { s.ppu with lcdc := lcdc, scx := scx, pal := #v[0, 1, 2, 3] }
  [0, 1, 2, 3, 4, 5, 6, 7].map fun i => p.pixel s.mem i

theorem test_V14_scanline : drawn 0x91 0 1 = [0, 2, 3, 3, 3, 3, 2, 0] := by decide
theorem test_V14b_scroll_x : drawn 0x91 3 1 = [3, 3, 3, 2, 0, 1, 1, 1] := by decide
theorem test_V16_signed_index : drawn 0x81 0 5 = [3, 3, 3, 3, 3, 3, 3, 3] := by decide
theorem test_V16_index_80 : drawn 0x81 0 0x80 = [2, 2, 2, 2, 2, 2, 2, 2] := by decide

/-- The PPU's base state of the vectors of section 2.9. -/
def screen : Ppu := { Ppu.reset with lcdc := 0x80 }

theorem test_V7b_excess_discarded : let p := { screen with cnt := 76 }.advance [] 6
    p.mode = .pixelTransfer ∧ p.cnt = 0 := by decide
theorem test_V2b_one_transition : let p := { screen with ly := 5 }.advance [] 114
    p.mode = .pixelTransfer ∧ p.cnt = 0 ∧ p.ly = 5 := by decide
theorem test_V3_present : let p := { screen with ly := 143, mode := .hBlank, cnt := 200 }.advance [] 1
    p.mode = .vBlank ∧ p.ly = 144 ∧ p.frames = 1 := by decide
theorem test_V3c_wrap : let p := { screen with ly := 153, mode := .vBlank, cnt := 452 }.advance [] 1
    p.mode = .oamSearch ∧ p.ly = 0 ∧ p.frames = 0 := by decide
theorem test_V8_next_vBlank_line : let p := { screen with ly := 144, mode := .vBlank, cnt := 452 }.advance [] 1
    p.mode = .vBlank ∧ p.ly = 145 ∧ p.cnt = 0 := by decide
theorem test_V5_lcd_off : let p := { screen with lcdc := 0x7F, cnt := 12 }.advance [] 6
    p.mode = .oamSearch ∧ p.cnt = 12 := by decide

/-! ## What the host asks -/

theorem test_table_word_ldAN : decodeTableWord 8 0x3E = some (.ldAN 0) := by decide
theorem test_table_word_jpNn : decodeTableWord 24 0x0150C3 = some (.jpNn 0x0150) := by decide
theorem test_table_word_prefixed : decodeTableWord 16 0xCB37 = some .swapA := by decide
theorem test_withFetchWord_ldAN : (State.reset.withFetchWord 16 0x423E).shadowCheck.fetched = .ldAN 0x42 := by decide
theorem test_withFetchWord_swapA : (State.reset.withFetchWord 16 0xCB37).shadowCheck.fetched = .swapA := by decide
theorem test_withFetchWord_keeps_pc : (State.reset.withFetchWord 16 0xCB37).pc = 0 := by decide
theorem test_withFetchWord_in_the_hole :
    ({ start with pc := 0xFEFE }.withFetchWord 24 0x0150C3).shadowCheck.fetched = .jpNn 0x0150 := by decide

/-! ## Hypotheses are met

One theorem for each statement that has hypotheses, one conjunct for each clause. -/

theorem witness_DecodeUndoesEncode : (Instr.ldAN 0xFF).wellFormed = true ∧ (Instr.jpNn 0xFFFF).wellFormed = true := by decide
theorem witness_EncodeUndoesDecode : decode [0xC3, 0xFF, 0xFF, 0x00] = .ok (.jpNn 0xFFFF, [0x00]) := by rfl

/-- `JP NZ,0x1234` at 0xFFFF, so the operand wraps to 0x0000, with Z set. -/
def wrapping : State := { start with pc := 0xFFFF, f := 0x80, mem := [(0, 0x34), (1, 0x12), (0xFFFF, 0xC2)] }

/-- `LD A,0x42` at 0xC000. -/
def loading : State := { start with mem := [(0xC000, 0x3E), (0xC001, 0x42)] }

theorem witness_StepRunsDecodedInstruction :
    let u := { wrapping with boot := wrapping.boot && decide (wrapping.pc.toNat ≤ 0xFF) }
    decode [u.busRead u.pc, u.busRead (u.pc + 1), u.busRead (u.pc + 2)] = .ok (.jpNzNn 0x1234, []) ∧
    ∃ t, exec (.jpNzNn 0x1234) { u with pc := wrapping.pc + BitVec.ofNat 16 3 } = .next t :=
  ⟨by rfl, _, rfl⟩

theorem witness_UntakenInstructionAdvancesPcByLength :
    (decode [wrapping.busRead 0xFFFF, wrapping.busRead 0, wrapping.busRead 1] = .ok (.jpNzNn 0x1234, []) ∧
      conditionOf (Instr.jpNzNn 0x1234).form = some .nz ∧ holds .nz wrapping = false ∧
      ∃ t, step wrapping = .next t) ∧
    (decode [loading.busRead 0xC000, loading.busRead 0xC001, loading.busRead 0xC002] = .ok (.ldAN 0x42, [0]) ∧
      transfers (Instr.ldAN 0x42).form = false ∧ ∃ t, step loading = .next t) :=
  ⟨⟨by rfl, rfl, by decide, _, step_eq _⟩, by rfl, rfl, _, step_eq _⟩

theorem witness_CpuAndPpuDoNotOverlap :
    (∃ t, exec .ldAtHlA { start with h := 0xFF, l := 0x40, a := 0x91 } = .next t) ∧
    ∃ u t, cpuStep loading = .next u ∧ step loading = .next t :=
  ⟨⟨_, exec_eq_perform _ _⟩, _, _, cpuStep_eq _, step_eq _⟩

theorem witness_FlagsChangeOnlyAsTabled : ∃ t, exec .ccf { start with f := 0xFF } = .next t := ⟨_, exec_eq_perform _ _⟩

theorem witness_LowBitsOfFlagsWrittenByPopAfOnly :
    (∃ t, exec .xorA { start with f := 0xFF } = .next t ∧ Instr.xorA.form ≠ .pop .af) ∧
    (∃ t, exec .popAf start = .next t ∧ Instr.popAf.form = .pop .af) :=
  ⟨⟨_, exec_eq_perform _ _, by decide⟩, _, exec_eq_perform _ _, rfl⟩

theorem witness_RegistersChangeOnlyAsRuled :
    ∃ t, exec .pushBc start = .next t ∧ Register.a ∉ written Instr.pushBc.form := ⟨_, exec_eq_perform _ _, by decide⟩

theorem witness_ControlStateChangesOnlyAsRuled :
    (∃ t, exec .di start = .next t ∧ Instr.di.form = .di) ∧ (∃ t, exec .ei start = .next t ∧ Instr.ei.form = .ei) ∧
    (∃ t, exec .reti start = .next t ∧ Instr.reti.form ≠ .di ∧ Instr.reti.form ≠ .ei) :=
  ⟨⟨_, exec_eq_perform _ _, rfl⟩, ⟨_, exec_eq_perform _ _, rfl⟩, _, exec_eq_perform _ _, by decide, by decide⟩

theorem witness_MemoryChangesOnlyWhereStored :
    (∃ t, exec .ldAtHlA { start with h := 0xE0 } = .next t ∧
      storedAt Instr.ldAtHlA.form { start with h := 0xE0 } = [0xE000] ∧ backing 0xC001 ≠ backing 0xE000) ∧
    (∃ t, exec (.callZNn 0) start = .next t ∧ storedAt (Instr.callZNn 0).form start = []) :=
  ⟨⟨_, exec_eq_perform _ _, by decide, by decide⟩, _, exec_eq_perform _ _, by decide⟩

/-- The cache of a video RAM of zeros. -/
theorem tilesMatch_blank : tilesMatch [] blankTiles := by
  intro t y x; simp [blankTiles, vramByte, Memory.read]

/-- A state with empty memory meets the invariant when its scanline machine is on schedule. -/
theorem inv_of_empty (s : State) (mem : s.mem = []) (tile : s.ppu.tile = blankTiles) (schedule : s.ppu.OnSchedule) : s.Inv :=
  ⟨by rw [mem]; rfl, by rw [mem]; rfl, by rw [mem, tile]; exact tilesMatch_blank, schedule⟩

/-- The last line of V-blank, with the counter at its highest. -/
def lastLine : State := { start with ppu := { screen with ly := 153, mode := .vBlank, cnt := 455 } }

theorem witness_EveryStepKeepsInvariant : lastLine.Inv ∧ ∃ t, step lastLine = .next t :=
  ⟨inv_of_empty _ rfl rfl ⟨by decide, by decide, by decide⟩, _, step_eq _⟩

/-- The last visible line, with the counter at its highest. -/
def lastVisible : State := { start with ppu := { screen with ly := 143, mode := .hBlank, cnt := 203 } }

theorem witness_EveryRunIsSafe : lastVisible.Inv := inv_of_empty _ rfl rfl ⟨by decide, by decide, by decide⟩

theorem witness_BootShadow :
    (∃ t, step loading = .next t) ∧ (0x00FF : Word).toNat < 256 ∧ State.reset.boot = true ∧ start.boot = false ∧
    256 ≤ (0x0100 : Word).toNat ∧ (0x7FFF : Word).toNat < 0x8000 := ⟨⟨_, step_eq _⟩, by decide⟩

theorem witness_RomNeverChanges : (0x7FFF : Word).toNat ≤ 0x7FFF ∧ ∃ t, step loading = .next t := ⟨by decide, _, step_eq _⟩

theorem witness_WorkRamMirror : 0xE000 ≤ (0xE000 : Word).toNat ∧ (0xFDFF : Word).toNat ≤ 0xFDFF := by decide

theorem witness_ReadAfterWrite :
    (stores 0xDDFF = true ∧ backing 0xFDFF = backing 0xDDFF) ∧ (backing 0xDE00 ≠ backing 0xFE00) ∧
    stores 0x7FFF = false ∧ stores 0x8000 = true ∧ stores 0xFE9F = true ∧ stores 0xFEA0 = false ∧ stores 0xFEFF = false ∧
    stores 0xFF00 = true ∧ stores 0xFF44 = false ∧ stores 0xFFFF = true := by decide

theorem witness_VideoRamWriteDecodesItsRow :
    (0x97FF - 0x8000 ≤ 0x17FF ∧ (383 : Fin 384).val = (0x97FF - 0x8000) / 16 ∧ (7 : Fin 8).val = (0x97FF - 0x8000) / 2 % 8) ∧
    0x8000 ≤ (0x8000 : Word).toNat ∧ (0x9FFF : Word).toNat ≤ 0x9FFF ∧ ¬(0x9800 - 0x8000 ≤ 0x17FF) := by decide

theorem witness_LoadRomFillsCartridge :
    (State.reset.romLoaded = false ∧ State.reset.clk = 0) ∧ { start with romLoaded := true }.romLoaded = true ∧
    { start with clk := 1 }.clk ≠ 0 ∧ start.Inv :=
  ⟨⟨rfl, rfl⟩, rfl, by decide, inv_of_empty _ rfl rfl ⟨by decide, by decide, by decide⟩⟩

theorem witness_CanonicalMemoriesThatReadAlikeAreEqual :
    Memory.wf [(0, 1), (0xFFFF, 255)] = true ∧ Memory.wf [(3, 0)] = false ∧ Memory.wf [(4, 1), (3, 1)] = false := by decide

theorem witness_LoadsOfRegistersAndThroughHl :
    Instr.ldBC.form = .ldRegReg .b .c ∧ (Instr.ldLN 0xFF).form = .ldRegImm .l 0xFF ∧ Instr.ldHAtHl.form = .ldRegAtHl .h ∧
    Instr.ldAtHlL.form = .ldAtHlReg .l ∧ (Instr.ldAtHlN 0).form = .ldAtHlImm 0 := by decide

theorem witness_LoadAccumulator :
    Instr.ldAAtBc.form = .ldAAtBc ∧ Instr.ldAAtDe.form = .ldAAtDe ∧
    (Instr.ldAAtNn 0xFFFE).form = .ldAAtNn ((0xFF : Byte) ++ (0xFE : Byte)) ∧
    (Instr.ldhAAtN 0xFF).form = .ldhAAtN 0xFF ∧ Instr.ldhAAtC.form = .ldhAAtC := by decide

theorem witness_StoreAccumulator :
    Instr.ldAtBcA.form = .ldAtBcA ∧ Instr.ldAtDeA.form = .ldAtDeA ∧
    (Instr.ldAtNnA 0xFFFE).form = .ldAtNnA ((0xFF : Byte) ++ (0xFE : Byte)) ∧
    (Instr.ldhAtNA 0x00).form = .ldhAtNA 0x00 ∧ Instr.ldhAtCA.form = .ldhAtCA := by decide

theorem witness_LoadAndStoreSteppingHl :
    Instr.ldAtHlIncA.form = .ldAtHlIncA ∧ Instr.ldAAtHlInc.form = .ldAAtHlInc ∧
    Instr.ldAtHlDecA.form = .ldAtHlDecA ∧ Instr.ldAAtHlDec.form = .ldAAtHlDec := by decide

theorem witness_LoadPair :
    (Instr.ldSpNn 0xFFFE).form = .ldPairImm .sp ((0xFF : Byte) ++ (0xFE : Byte)) ∧
    (Instr.ldAtNnSp 0xFFFF).form = .ldAtNnSp ((0xFF : Byte) ++ (0xFF : Byte)) ∧ Instr.ldSpHl.form = .ldSpHl := by decide

theorem witness_AddDisplacementToSp :
    (Instr.addSpD8 0x80).form = .addSpDisp 0x80 ∧ (Instr.ldHlSpD 0x7F).form = .ldHlSpDisp 0x7F := by decide

theorem witness_PushAndPop : Instr.pushAf.form = .push .af ∧ Instr.popAf.form = .pop .af := by decide

theorem witness_PopUndoesPush :
    Instr.pushHl.form = .push .hl ∧ Instr.popHl.form = .pop .hl ∧
    stores (State.reset.sp - 2) = true ∧ stores (State.reset.sp - 1) = true ∧
    stores ((0x8002 : Word) - 2) = true ∧ stores ((0x8002 : Word) - 1) = true := by decide

theorem witness_AccumulatorOperandsAreEncoded :
    Instr.cpA.form = .aluReg .cp .a ∧ Instr.addAAtHl.form = .aluAtHl .add ∧ (Instr.xorN 0xFF).form = .aluImm .xor 0xFF := by
  decide

theorem witness_AddAndAddWithCarry :
    aluOperand Instr.addAA.form start = some (.add, 0, 1) ∧ aluOperand (Instr.adcAN 0xFF).form start = some (.adc, 0xFF, 2) := by
  decide

theorem witness_SubtractAndCompare :
    aluOperand Instr.subAtHl.form start = some (.sub, 0, 2) ∧ aluOperand (Instr.sbcAN 0xFF).form start = some (.sbc, 0xFF, 2) ∧
    aluOperand Instr.cpL.form start = some (.cp, 0, 1) := by decide

theorem witness_BitwiseLogic :
    aluOperand (Instr.andN 0x0F).form start = some (.and, 0x0F, 2) ∧ aluOperand Instr.xorA.form start = some (.xor, 0, 1) ∧
    aluOperand Instr.orAtHl.form start = some (.or, 0, 2) := by decide

theorem witness_IncrementAndDecrement :
    Instr.incA.form = .incReg .a ∧ Instr.incAtHl.form = .incAtHl ∧ Instr.decL.form = .decReg .l ∧
    Instr.decAtHl.form = .decAtHl := by decide

theorem witness_DecimalAdjust : Instr.daa.form = .daa := by decide

theorem witness_DecimalArithmeticIsCorrect :
    aluOperand (Instr.addAN 0x99).form { start with a := 0x99 } = some (.add, 0x99, 2) ∧ Instr.daa.form = .daa ∧
    aluOperand (Instr.adcAN 0x99).form { start with a := 0x99 } = some (.adc, 0x99, 2) ∧
    aluOperand (Instr.subN 0x99).form { start with a := 0x00 } = some (.sub, 0x99, 2) ∧
    aluOperand (Instr.sbcAN 0x99).form { start with a := 0x00 } = some (.sbc, 0x99, 2) ∧
    isBcd 0x99 = true ∧ isBcd 0x00 = true ∧ isBcd 0x9A = false ∧ isBcd 0xA0 = false := by decide

theorem witness_ComplementAndCarry :
    Instr.cpl.form = .cpl ∧ Instr.scf.form = .scf ∧ Instr.ccf.form = .ccf := by decide

theorem witness_PairArithmetic :
    Instr.addHlSp.form = .addHl .sp ∧ Instr.incSp.form = .incPair .sp ∧ Instr.decBc.form = .decPair .bc := by decide

theorem witness_AccumulatorRotates :
    Instr.rlca.form = .rlca ∧ Instr.rrca.form = .rrca ∧ Instr.rla.form = .rla ∧ Instr.rra.form = .rra := by decide

theorem witness_PrefixedRotatesAndShifts :
    Instr.swapA.form = .rot .swap (.reg .a) ∧ Instr.srlAtHl.form = .rot .srl .atHl := by decide

theorem witness_BitTestResetSet :
    Instr.bit7AtHl.form = .bitTest 7 .atHl ∧ Instr.res0A.form = .bitRes 0 (.reg .a) ∧ Instr.set7B.form = .bitSet 7 (.reg .b) := by
  decide

theorem witness_Jumps :
    (Instr.jpNn 0x0150).form = .jp ((0x01 : Byte) ++ (0x50 : Byte)) ∧
    (Instr.jpCNn 0xFFFF).form = .jpCond .c ((0xFF : Byte) ++ (0xFF : Byte)) ∧ Instr.jpHl.form = .jpHl ∧
    (Instr.jrD8 0x80).form = .jr 0x80 ∧ (Instr.jrNzD8 0x7F).form = .jrCond .nz 0x7F := by decide

theorem witness_CallsAndReturns :
    (Instr.callNn 0x0200).form = .call ((0x02 : Byte) ++ (0x00 : Byte)) ∧
    (Instr.callNcNn 0x0200).form = .callCond .nc ((0x02 : Byte) ++ (0x00 : Byte)) ∧ Instr.ret.form = .ret ∧
    Instr.retZ.form = .retCond .z ∧ Instr.rst38.form = .rst 7 ∧ Instr.reti.form = .reti := by decide

theorem witness_ReturnUndoesCall :
    ((Instr.callNn 0).form = .call 0 ∧ (Instr.callNzNn 0).form = .callCond .nz 0 ∧ holds .nz start = true ∧
      Instr.rst00.form = .rst 0) ∧
    (Instr.ret.form = .ret ∧ Instr.reti.form = .reti ∧ Instr.retNc.form = .retCond .nc ∧ holds .nc start = true) ∧
    stores (start.sp - 2) = true ∧ stores (start.sp - 1) = true := by decide

theorem witness_MiscellaneousInstructions :
    Instr.nop.form = .nop ∧ Instr.halt.form = .halt ∧ Instr.stop.form = .stop ∧ Instr.di.form = .di ∧ Instr.ei.form = .ei ∧
    Instr.unmappedED.form = .unmapped .xED := by decide

theorem witness_AdvanceMakesOneTransition :
    Ppu.reset.lcdc.getLsbD 7 = false ∧ screen.lcdc.getLsbD 7 = true ∧ screen.mode = .oamSearch ∧
    { screen with mode := .pixelTransfer }.mode = .pixelTransfer ∧
    { screen with mode := .hBlank, ly := 143 }.ly.toNat = 143 ∧ { screen with mode := .vBlank, ly := 153 }.ly.toNat = 153 := by
  decide

theorem witness_LineTakes114Cycles : let p := { screen with ly := 142 }
    p.lcdc.getLsbD 7 = true ∧ p.mode = .oamSearch ∧ p.cnt = 0 ∧ p.ly.toNat < 143 := by decide

theorem witness_FrameTakes17556Cycles :
    screen.lcdc.getLsbD 7 = true ∧ screen.mode = .oamSearch ∧ screen.cnt = 0 ∧ screen.ly = 0 := by decide

theorem witness_OutputShowsRenderedLines : let p := { screen with scy := 0xFF, scx := 0xFF }
    p.lcdc.getLsbD 7 = true ∧ p.mode = .oamSearch ∧ p.cnt = 0 ∧ p.ly = 0 := by decide

theorem witness_RenderedLineComesFromVideoRam : let p := { screen with ly := 143 }
    tilesMatch [] p.tile ∧ p.ly.toNat < 144 ∧ ((143 : Fin 144).val = p.ly.toNat ∧ (0 : Fin 144).val ≠ p.ly.toNat) :=
  ⟨tilesMatch_blank, by decide⟩

/-- A NOP at 0xC000, with the scanline machine one cycle before a threshold. -/
def beforeThreshold (mode : PpuMode) (cnt : Nat) (ly : Byte) : State :=
  { start with ppu := { screen with mode := mode, cnt := cnt, ly := ly } }

theorem witness_SinkReceivesRenderedPixels :
    (∃ u, cpuStep (beforeThreshold .pixelTransfer 168 143) = .next u ∧ u.ppu.lcdc.getLsbD 7 = true ∧
      u.ppu.mode = .pixelTransfer ∧ 172 ≤ u.ppu.cnt + 4 * u.m ∧ u.ppu.ly.toNat < 144) ∧
    (∃ u, cpuStep (beforeThreshold .hBlank 200 143) = .next u ∧ u.ppu.lcdc.getLsbD 7 = true ∧
      u.ppu.mode = .hBlank ∧ 204 ≤ u.ppu.cnt + 4 * u.m ∧ u.ppu.ly.toNat = 143) ∧
    (∃ u, cpuStep (beforeThreshold .pixelTransfer 164 143) = .next u ∧ u.ppu.mode = .pixelTransfer ∧
      ¬(172 ≤ u.ppu.cnt + 4 * u.m)) :=
  ⟨⟨_, cpuStep_eq _, by decide, by decide, by decide, by decide⟩,
    ⟨_, cpuStep_eq _, by decide, by decide, by decide, by decide⟩, _, cpuStep_eq _, by decide, by decide⟩

theorem witness_UnobservableStateHasNoInfluence :
    let t := { loading with ime := true, halted := true, stopped := true, m := 6, clk := 99 }
    sameToProgram loading t ∧ loading ≠ t ∧ (∃ u, step loading = .next u) ∧ ∃ v, step t = .next v :=
  ⟨rfl, fun same => absurd (congrArg State.ime same) (by decide), ⟨_, step_eq _⟩, _, step_eq _⟩

end Sys2Proof.Tests
end

section
/-! SUPPORT. One equation for each form: its operation written in the updates of the state, whose fields
Sys2Proof/Laws/State.lean and Sys2Proof/Laws/Bus.lean give. -/

namespace Sys2Proof.Machine

/-- An accumulator operation writes the four flags and then A, which CP leaves as it was (rule R183). -/
theorem aluWith_eq (op : AluOp) (v : Byte) (s : State) :
    aluWith op v s =
      (s.setFlags (alu op s.a v s.flagC).z (alu op s.a v s.flagC).n (alu op s.a v s.flagC).h
        (alu op s.a v s.flagC).c).setA (if op = .cp then s.a else (alu op s.a v s.flagC).res) := by
  cases op <;> rfl

section
variable (s : State)

@[simp] theorem operand8_reg (r : Reg8) : s.operand8 (.reg r) = s.reg8 r := rfl
@[simp] theorem operand8_atHl : s.operand8 .atHl = s.busRead s.hl := rfl
@[simp] theorem setOperand8_reg (r : Reg8) (v : Byte) : s.setOperand8 (.reg r) v = s.setReg8 r v := rfl
@[simp] theorem setOperand8_atHl (v : Byte) : s.setOperand8 .atHl v = s.busWrite s.hl v := rfl

/-! ### Miscellaneous (spec/46_misc.md) -/

@[simp] theorem perform_nop : perform .nop s = s.took 1 := rfl
@[simp] theorem perform_halt : perform .halt s = { s with halted := true }.took 1 := rfl
@[simp] theorem perform_stop : perform .stop s = { s with stopped := true }.took 1 := rfl
@[simp] theorem perform_di : perform .di s = { s with ime := false }.took 1 := rfl
@[simp] theorem perform_ei : perform .ei s = { s with ime := true }.took 1 := rfl
@[simp] theorem perform_unmapped (u : UnmappedOp) : perform (.unmapped u) s = s.took 1 := rfl

/-! ### 8-bit loads (spec/40_loads8.md) -/

@[simp] theorem perform_ldRegReg (dst src : Reg8) :
    perform (.ldRegReg dst src) s = (s.setReg8 dst (s.reg8 src)).took 1 := rfl
@[simp] theorem perform_ldRegImm (dst : Reg8) (n : Byte) : perform (.ldRegImm dst n) s = (s.setReg8 dst n).took 2 := rfl
@[simp] theorem perform_ldRegAtHl (dst : Reg8) :
    perform (.ldRegAtHl dst) s = (s.setReg8 dst (s.busRead s.hl)).took 2 := rfl
@[simp] theorem perform_ldAtHlReg (src : Reg8) :
    perform (.ldAtHlReg src) s = (s.busWrite s.hl (s.reg8 src)).took 2 := rfl
@[simp] theorem perform_ldAtHlImm (n : Byte) : perform (.ldAtHlImm n) s = (s.busWrite s.hl n).took 3 := rfl
@[simp] theorem perform_ldAAtBc : perform .ldAAtBc s = (s.setA (s.busRead s.bc)).took 2 := rfl
@[simp] theorem perform_ldAAtDe : perform .ldAAtDe s = (s.setA (s.busRead s.de)).took 2 := rfl
@[simp] theorem perform_ldAtBcA : perform .ldAtBcA s = (s.busWrite s.bc s.a).took 2 := rfl
@[simp] theorem perform_ldAtDeA : perform .ldAtDeA s = (s.busWrite s.de s.a).took 2 := rfl
@[simp] theorem perform_ldAAtNn (nn : Word) : perform (.ldAAtNn nn) s = (s.setA (s.busRead nn)).took 4 := rfl
@[simp] theorem perform_ldAtNnA (nn : Word) : perform (.ldAtNnA nn) s = (s.busWrite nn s.a).took 4 := rfl
@[simp] theorem perform_ldhAAtN (n : Byte) : perform (.ldhAAtN n) s = (s.setA (s.busRead (pageAddr n))).took 3 := rfl
@[simp] theorem perform_ldhAtNA (n : Byte) : perform (.ldhAtNA n) s = (s.busWrite (pageAddr n) s.a).took 3 := rfl
@[simp] theorem perform_ldhAAtC : perform .ldhAAtC s = (s.setA (s.busRead (pageAddr s.c))).took 2 := rfl
@[simp] theorem perform_ldhAtCA : perform .ldhAtCA s = (s.busWrite (pageAddr s.c) s.a).took 2 := rfl
@[simp] theorem perform_ldAtHlIncA : perform .ldAtHlIncA s = ((s.busWrite s.hl s.a).setHl (s.hl + 1)).took 2 := rfl
@[simp] theorem perform_ldAAtHlInc : perform .ldAAtHlInc s = ((s.setA (s.busRead s.hl)).setHl (s.hl + 1)).took 2 := rfl
@[simp] theorem perform_ldAtHlDecA : perform .ldAtHlDecA s = ((s.busWrite s.hl s.a).setHl (s.hl - 1)).took 2 := rfl
@[simp] theorem perform_ldAAtHlDec : perform .ldAAtHlDec s = ((s.setA (s.busRead s.hl)).setHl (s.hl - 1)).took 2 := rfl

/-! ### 16-bit loads and the stack (spec/41_loads16_stack.md) -/

@[simp] theorem perform_ldPairImm (rp : Pair) (nn : Word) : perform (.ldPairImm rp nn) s = (s.setPair rp nn).took 3 := rfl
@[simp] theorem perform_ldAtNnSp (nn : Word) : perform (.ldAtNnSp nn) s = (s.busWriteWord nn s.sp).took 5 := rfl
@[simp] theorem perform_ldSpHl : perform .ldSpHl s = (s.setSp s.hl).took 2 := rfl
@[simp] theorem perform_ldHlSpDisp (d : Byte) :
    perform (.ldHlSpDisp d) s =
      ((s.setHl (spAdd s.sp d).res).setFlags false false (spAdd s.sp d).h (spAdd s.sp d).c).took 3 := rfl
@[simp] theorem perform_push (q : StackPair) : perform (.push q) s = (s.pushWord (s.stackPair q)).took 4 := rfl
@[simp] theorem perform_pop (q : StackPair) :
    perform (.pop q) s = ((s.setStackPair q s.stackTop).setSp (s.sp + 2)).took 3 := rfl

/-! ### 8-bit arithmetic and logic (spec/42_alu8.md) -/

@[simp] theorem perform_aluReg (op : AluOp) (r : Reg8) :
    perform (.aluReg op r) s = (aluWith op (s.reg8 r) s).took 1 := rfl
@[simp] theorem perform_aluAtHl (op : AluOp) :
    perform (.aluAtHl op) s = (aluWith op (s.busRead s.hl) s).took 2 := rfl
@[simp] theorem perform_aluImm (op : AluOp) (n : Byte) : perform (.aluImm op n) s = (aluWith op n s).took 2 := rfl
@[simp] theorem perform_incReg (r : Reg8) :
    perform (.incReg r) s =
      ((s.setFlags (add8 (s.reg8 r) 1).z false (add8 (s.reg8 r) 1).h s.flagC).setReg8 r
        (add8 (s.reg8 r) 1).res).took 1 := rfl
@[simp] theorem perform_decReg (r : Reg8) :
    perform (.decReg r) s =
      ((s.setFlags (sub8 (s.reg8 r) 1).z true (sub8 (s.reg8 r) 1).h s.flagC).setReg8 r
        (sub8 (s.reg8 r) 1).res).took 1 := rfl

/-- `INC (HL)`: the flags are written after the store, which leaves F alone (rule R185). -/
@[simp] theorem perform_incAtHl :
    perform .incAtHl s =
      ((s.busWrite s.hl (add8 (s.busRead s.hl) 1).res).setFlags (add8 (s.busRead s.hl) 1).z false
        (add8 (s.busRead s.hl) 1).h s.flagC).took 3 := by
  simp [perform, incAtHl, incFlags, State.atHl, State.setAtHl, State.flagC]

/-- `DEC (HL)`: the flags are written after the store, which leaves F alone (rule R187). -/
@[simp] theorem perform_decAtHl :
    perform .decAtHl s =
      ((s.busWrite s.hl (sub8 (s.busRead s.hl) 1).res).setFlags (sub8 (s.busRead s.hl) 1).z true
        (sub8 (s.busRead s.hl) 1).h s.flagC).took 3 := by
  simp [perform, decAtHl, decFlags, State.atHl, State.setAtHl, State.flagC]

@[simp] theorem perform_daa :
    perform .daa s =
      ((s.setA (daa s.a s.flagN s.flagH s.flagC).res).setFlags ((daa s.a s.flagN s.flagH s.flagC).res == 0) s.flagN
        false (daa s.a s.flagN s.flagH s.flagC).c).took 1 := rfl
@[simp] theorem perform_cpl :
    perform .cpl s = ((s.setA (~~~s.a)).setFlags s.flagZ true true s.flagC).took 1 := rfl
@[simp] theorem perform_scf : perform .scf s = (s.setFlags s.flagZ false false true).took 1 := rfl
@[simp] theorem perform_ccf : perform .ccf s = (s.setFlags s.flagZ false false (!s.flagC)).took 1 := rfl

/-! ### 16-bit arithmetic (spec/43_alu16.md) -/

@[simp] theorem perform_addHl (rp : Pair) :
    perform (.addHl rp) s =
      ((s.setHl (addHl16 s.hl (s.pair rp)).res).setFlags s.flagZ false (addHl16 s.hl (s.pair rp)).h
        (addHl16 s.hl (s.pair rp)).c).took 2 := rfl
@[simp] theorem perform_incPair (rp : Pair) : perform (.incPair rp) s = (s.setPair rp (s.pair rp + 1)).took 2 := rfl
@[simp] theorem perform_decPair (rp : Pair) : perform (.decPair rp) s = (s.setPair rp (s.pair rp - 1)).took 2 := rfl
@[simp] theorem perform_addSpDisp (d : Byte) :
    perform (.addSpDisp d) s =
      ((s.setSp (spAdd s.sp d).res).setFlags false false (spAdd s.sp d).h (spAdd s.sp d).c).took 4 := rfl

/-! ### Rotates, shifts and bits (spec/44_rotates_bits.md) -/

@[simp] theorem perform_rlca :
    perform .rlca s = ((s.setA (rlc8 s.a).res).setFlags false false false (rlc8 s.a).c).took 1 := rfl
@[simp] theorem perform_rrca :
    perform .rrca s = ((s.setA (rrc8 s.a).res).setFlags false false false (rrc8 s.a).c).took 1 := rfl
@[simp] theorem perform_rla :
    perform .rla s = ((s.setA (rl8 s.a s.flagC).res).setFlags false false false (rl8 s.a s.flagC).c).took 1 := rfl
@[simp] theorem perform_rra :
    perform .rra s = ((s.setA (rr8 s.a s.flagC).res).setFlags false false false (rr8 s.a s.flagC).c).took 1 := rfl
@[simp] theorem perform_rot (op : RotOp) (o : Operand8) :
    perform (.rot op o) s =
      ((s.setOperand8 o (rotate op (s.operand8 o) s.flagC).res).setFlags
        ((rotate op (s.operand8 o) s.flagC).res == 0) false false
        (rotate op (s.operand8 o) s.flagC).c).took (modifyCost o) := rfl
@[simp] theorem perform_bitTest (b : Fin 8) (o : Operand8) :
    perform (.bitTest b o) s =
      (s.setFlags (!(s.operand8 o).getLsbD b) false true s.flagC).took (testCost o) := rfl
@[simp] theorem perform_bitRes (b : Fin 8) (o : Operand8) :
    perform (.bitRes b o) s =
      (s.setOperand8 o (s.operand8 o &&& ~~~(BitVec.twoPow 8 b))).took (modifyCost o) := rfl
@[simp] theorem perform_bitSet (b : Fin 8) (o : Operand8) :
    perform (.bitSet b o) s = (s.setOperand8 o (s.operand8 o ||| BitVec.twoPow 8 b)).took (modifyCost o) := rfl

/-! ### Control transfer (spec/45_control.md) -/

@[simp] theorem perform_jp (nn : Word) : perform (.jp nn) s = (s.setPc nn).took 4 := rfl
@[simp] theorem perform_jpCond (cc : Cond) (nn : Word) :
    perform (.jpCond cc nn) s = if s.cond cc then (s.setPc nn).took 4 else s.took 3 := rfl
@[simp] theorem perform_jpHl : perform .jpHl s = (s.setPc s.hl).took 1 := rfl
@[simp] theorem perform_jr (d : Byte) : perform (.jr d) s = (s.setPc (s.pc + signExtend16 d)).took 3 := rfl
@[simp] theorem perform_jrCond (cc : Cond) (d : Byte) :
    perform (.jrCond cc d) s = if s.cond cc then (s.setPc (s.pc + signExtend16 d)).took 3 else s.took 2 := rfl
@[simp] theorem perform_call (nn : Word) : perform (.call nn) s = (s.callTo nn).took 6 := rfl
@[simp] theorem perform_callCond (cc : Cond) (nn : Word) :
    perform (.callCond cc nn) s = if s.cond cc then (s.callTo nn).took 6 else s.took 3 := rfl
@[simp] theorem perform_ret : perform .ret s = ((s.setPc s.stackTop).setSp (s.sp + 2)).took 4 := rfl
@[simp] theorem perform_retCond (cc : Cond) :
    perform (.retCond cc) s = if s.cond cc then ((s.setPc s.stackTop).setSp (s.sp + 2)).took 5 else s.took 2 := rfl
@[simp] theorem perform_rst (t : Fin 8) : perform (.rst t) s = (s.callTo (rstTarget t)).took 4 := rfl
@[simp] theorem perform_reti : perform .reti s = ((s.setPc s.stackTop).setSp (s.sp + 2)).took 4 := rfl

end

/-! ### `PREFIX CB` (rule R110) -/

/-- The form of the row that `PREFIX CB` runs for a second byte (rules R107 and R110). -/
def prefixedForm (op2 : Byte) : Form :=
  let y : Fin 8 := ⟨op2.toNat / 8 % 8, Nat.mod_lt _ (by decide)⟩
  let o := operandOf (op2.toNat % 8)
  match op2.toNat / 64 with
  | 0 => .rot (rotOf y) o
  | 1 => .bitTest y o
  | 2 => .bitRes y o
  | _ => .bitSet y o

/-- `PREFIX CB` does what the prefixed row's form does. -/
theorem perform_prefixCb (op2 : Byte) (s : State) : perform (.prefixCb op2) s = perform (prefixedForm op2) s := by
  unfold prefixedForm
  change prefixed op2 s = _
  unfold prefixed
  rcases op2.toNat / 64 with _ | _ | _ | _ <;> rfl

/-- `PREFIX CB` runs a rotate or shift, or a bit test, reset or set (rule R107). -/
theorem prefixedForm_cases (op2 : Byte) :
    ∃ o, (∃ op, prefixedForm op2 = .rot op o) ∨
      ∃ b, prefixedForm op2 = .bitTest b o ∨ prefixedForm op2 = .bitRes b o ∨ prefixedForm op2 = .bitSet b o := by
  refine ⟨operandOf (op2.toNat % 8), ?_⟩
  unfold prefixedForm
  rcases op2.toNat / 64 with _ | _ | _ | _
  · exact .inl ⟨_, rfl⟩
  · exact .inr ⟨_, .inl rfl⟩
  · exact .inr ⟨_, .inr (.inl rfl)⟩
  · exact .inr ⟨_, .inr (.inr rfl)⟩

/-- What holds of every form but `PREFIX CB`, and of that one whenever it holds of the form that it runs, holds of every
form. -/
theorem forall_form {P : Form → Prop} (through : ∀ op2, P (prefixedForm op2) → P (.prefixCb op2))
    (direct : ∀ form, (∀ op2, form ≠ .prefixCb op2) → P form) (form : Form) : P form := by
  by_cases bare : ∃ op2, form = .prefixCb op2
  · obtain ⟨op2, rfl⟩ := bare
    refine through op2 (direct _ fun op2' => ?_)
    obtain ⟨o, ⟨op, e⟩ | ⟨b, e | e | e⟩⟩ := prefixedForm_cases op2 <;> simp [e]
  · exact direct form fun op2 same => bare ⟨op2, same⟩

end Sys2Proof.Machine
end

section
/-! SUPPORT. What a program cannot observe (rule R44) has no influence on what it can. A state is rewritten with the
unobserved part of another; every update of the state commutes with that, so every form does, and so does a step. -/

namespace Sys2Proof.Machine

open Sys2Proof.Claims

/-- The PPU with the picture of another: frame buffer, output and present count. -/
def Ppu.withPicture (p q : Ppu) : Ppu := { p with fb := q.fb, out := q.out, frames := q.frames }

/-- The state with what a program cannot observe taken from another state: `sameToProgram` as a function. -/
def State.withUnobserved (s t : State) : State :=
  { s with
    ime := t.ime
    halted := t.halted
    stopped := t.stopped
    m := t.m
    clk := t.clk
    romLoaded := t.romLoaded
    ppu := s.ppu.withPicture t.ppu }

theorem sameToProgram_iff (s t : State) : sameToProgram s t ↔ t = s.withUnobserved t := Iff.rfl

@[simp] theorem sameToProgram_withUnobserved (s t : State) : sameToProgram s (s.withUnobserved t) := rfl

/-! ### What a program reads -/

section
variable (s t : State)

@[simp] theorem withUnobserved_a : (s.withUnobserved t).a = s.a := rfl
@[simp] theorem withUnobserved_c : (s.withUnobserved t).c = s.c := rfl
@[simp] theorem withUnobserved_sp : (s.withUnobserved t).sp = s.sp := rfl
@[simp] theorem withUnobserved_pc : (s.withUnobserved t).pc = s.pc := rfl
@[simp] theorem withUnobserved_m : (s.withUnobserved t).m = t.m := rfl
@[simp] theorem withUnobserved_mem : (s.withUnobserved t).mem = s.mem := rfl
@[simp] theorem withUnobserved_bc : (s.withUnobserved t).bc = s.bc := rfl
@[simp] theorem withUnobserved_de : (s.withUnobserved t).de = s.de := rfl
@[simp] theorem withUnobserved_hl : (s.withUnobserved t).hl = s.hl := rfl
@[simp] theorem withUnobserved_flagZ : (s.withUnobserved t).flagZ = s.flagZ := rfl
@[simp] theorem withUnobserved_flagN : (s.withUnobserved t).flagN = s.flagN := rfl
@[simp] theorem withUnobserved_flagH : (s.withUnobserved t).flagH = s.flagH := rfl
@[simp] theorem withUnobserved_flagC : (s.withUnobserved t).flagC = s.flagC := rfl
@[simp] theorem withUnobserved_reg8 (r : Reg8) : (s.withUnobserved t).reg8 r = s.reg8 r := by cases r <;> rfl
@[simp] theorem withUnobserved_pair (rp : Pair) : (s.withUnobserved t).pair rp = s.pair rp := by cases rp <;> rfl
@[simp] theorem withUnobserved_stackPair (q : StackPair) : (s.withUnobserved t).stackPair q = s.stackPair q := by
  cases q <;> rfl
@[simp] theorem withUnobserved_cond (cc : Cond) : (s.withUnobserved t).cond cc = s.cond cc := by cases cc <;> rfl
@[simp] theorem withUnobserved_busRead (addr : Word) : (s.withUnobserved t).busRead addr = s.busRead addr :=
  State.busRead_congr addr rfl rfl rfl fun _ => rfl
@[simp] theorem withUnobserved_stackTop : (s.withUnobserved t).stackTop = s.stackTop := by
  simp [State.stackTop, State.busReadWord]
@[simp] theorem withUnobserved_operand8 (o : Operand8) : (s.withUnobserved t).operand8 o = s.operand8 o := by
  cases o <;> simp

/-! ### Updates of the state -/

@[simp] theorem setA_withUnobserved (v : Byte) : (s.withUnobserved t).setA v = (s.setA v).withUnobserved t := rfl
@[simp] theorem setHl_withUnobserved (v : Word) : (s.withUnobserved t).setHl v = (s.setHl v).withUnobserved t := rfl
@[simp] theorem setSp_withUnobserved (v : Word) : (s.withUnobserved t).setSp v = (s.setSp v).withUnobserved t := rfl
@[simp] theorem setPc_withUnobserved (v : Word) : (s.withUnobserved t).setPc v = (s.setPc v).withUnobserved t := rfl
@[simp] theorem setFlags_withUnobserved (z n h c : Bool) :
    (s.withUnobserved t).setFlags z n h c = (s.setFlags z n h c).withUnobserved t := rfl
@[simp] theorem setReg8_withUnobserved (r : Reg8) (v : Byte) :
    (s.withUnobserved t).setReg8 r v = (s.setReg8 r v).withUnobserved t := by cases r <;> rfl
@[simp] theorem setPair_withUnobserved (rp : Pair) (v : Word) :
    (s.withUnobserved t).setPair rp v = (s.setPair rp v).withUnobserved t := by cases rp <;> rfl
@[simp] theorem setStackPair_withUnobserved (q : StackPair) (v : Word) :
    (s.withUnobserved t).setStackPair q v = (s.setStackPair q v).withUnobserved t := by cases q <;> rfl

/-- The cost of an instruction replaces whatever `m` was. -/
@[simp] theorem took_withUnobserved (k : Nat) :
    (s.withUnobserved t).took k = (s.took k).withUnobserved (t.took k) := rfl

theorem Ppu.writeRegister_withPicture (p q : Ppu) (addr : Nat) (v : Byte) :
    (p.withPicture q).writeRegister addr v = (p.writeRegister addr v).withPicture q := by
  unfold Ppu.writeRegister
  repeat' split
  all_goals rfl

theorem storeVram_withUnobserved (off : Nat) (v : Byte) :
    (s.withUnobserved t).storeVram off v = (s.storeVram off v).withUnobserved t := by
  unfold State.storeVram
  by_cases inTiles : off ≤ 0x17FF
  · simp only [inTiles, if_true]; rfl
  · simp only [inTiles, if_false]; rfl

@[simp] theorem busWrite_withUnobserved (addr : Word) (v : Byte) :
    (s.withUnobserved t).busWrite addr v = (s.busWrite addr v).withUnobserved t := by
  have register : { s.withUnobserved t with ppu := (s.withUnobserved t).ppu.writeRegister addr.toNat v } =
      { s with ppu := s.ppu.writeRegister addr.toNat v }.withUnobserved t :=
    congrArg (fun p => { s.withUnobserved t with ppu := p }) (Ppu.writeRegister_withPicture s.ppu t.ppu addr.toNat v)
  unfold State.busWrite
  simp only [storeVram_withUnobserved, register]
  repeat' split
  all_goals rfl

@[simp] theorem busWriteWord_withUnobserved (addr v : Word) :
    (s.withUnobserved t).busWriteWord addr v = (s.busWriteWord addr v).withUnobserved t := by
  simp [State.busWriteWord]

@[simp] theorem pushWord_withUnobserved (v : Word) :
    (s.withUnobserved t).pushWord v = (s.pushWord v).withUnobserved t := by simp [State.pushWord]

@[simp] theorem callTo_withUnobserved (target : Word) :
    (s.withUnobserved t).callTo target = (s.callTo target).withUnobserved t := by simp [State.callTo]

@[simp] theorem setOperand8_withUnobserved (o : Operand8) (v : Byte) :
    (s.withUnobserved t).setOperand8 o v = (s.setOperand8 o v).withUnobserved t := by cases o <;> simp

@[simp] theorem aluWith_withUnobserved (op : AluOp) (v : Byte) :
    aluWith op v (s.withUnobserved t) = (aluWith op v s).withUnobserved t := by simp [aluWith_eq]

/-- Every form does the same to what a program observes, whatever the rest, and takes the same time. -/
theorem perform_withUnobserved (form : Form) :
    sameToProgram (perform form s) (perform form (s.withUnobserved t)) ∧
      (perform form (s.withUnobserved t)).m = (perform form s).m := by
  induction form using forall_form with
  | through op2 run => simpa only [perform_prefixCb] using run
  | direct form notPrefix =>
    cases form with
    | prefixCb op2 => exact absurd rfl (notPrefix op2)
    | halt | stop | di | ei => exact ⟨rfl, rfl⟩
    | jpCond cc _ | jrCond cc _ | callCond cc _ | retCond cc => cases taken : s.cond cc <;> simp [taken]
    | _ => simp

end

/-! ### A step -/

/-- Leaving a mode writes the picture and never reads it. -/
theorem Ppu.leaveMode_withPicture (p q : Ppu) (mem : Memory) :
    (p.withPicture q).leaveMode mem = (p.leaveMode mem).withPicture ((p.withPicture q).leaveMode mem) := by
  have sameMode : (p.withPicture q).mode = p.mode := rfl
  have sameLine : (p.withPicture q).ly = p.ly := rfl
  unfold Ppu.leaveMode
  rw [sameMode, sameLine]
  rcases p.mode with _ | _ | _ | _ <;> dsimp only
  · rfl
  · rw [Ppu.renderScanline_eq, Ppu.renderScanline_eq p]; rfl
  · split <;> rfl
  · split <;> rfl

/-- Advancing the PPU writes the picture and never reads it. -/
theorem Ppu.advance_withPicture (p q : Ppu) (mem : Memory) (m : Nat) :
    (p.withPicture q).advance mem m = (p.advance mem m).withPicture ((p.withPicture q).advance mem m) := by
  have sameOn : (p.withPicture q).lcdEnabled = p.lcdEnabled := rfl
  have sameMode : (p.withPicture q).mode = p.mode := rfl
  have sameCount : (p.withPicture q).cnt = p.cnt := rfl
  unfold Ppu.advance
  rw [sameOn, sameMode, sameCount]
  split
  · split
    · exact Ppu.leaveMode_withPicture { p with cnt := 0 } q mem
    · rfl
  · rfl

theorem sameToProgram_tick {s t : State} (same : sameToProgram s t) : sameToProgram s.tick t.tick := by
  rw [(sameToProgram_iff s t).mp same]; rfl

/-- The PPU's advance shows a program the same when the instruction cost the same. -/
theorem sameToProgram_ppuAdvance {s t : State} (same : sameToProgram s t) (cost : t.m = s.m) :
    sameToProgram s.ppuAdvance t.ppuAdvance := by
  have advanced : s.ppuAdvance = { s with ppu := s.ppu.advance s.mem t.m } := by rw [cost]; rfl
  rw [(sameToProgram_iff s t).mp same] at advanced ⊢
  rw [advanced]
  exact congrArg (fun p => { s.withUnobserved t with ppu := p }) (Ppu.advance_withPicture s.ppu t.ppu s.mem t.m)

@[simp] theorem shadowCheck_withUnobserved (s t : State) :
    (s.withUnobserved t).shadowCheck = s.shadowCheck.withUnobserved t := by
  unfold State.shadowCheck
  rw [withUnobserved_pc]
  split <;> rfl

@[simp] theorem fetched_withUnobserved (s t : State) : (s.withUnobserved t).fetched = s.fetched := by
  simp [State.fetched]

@[simp] theorem readyToRun_withUnobserved (s t : State) :
    (s.withUnobserved t).readyToRun = s.readyToRun.withUnobserved t := by
  simp [State.readyToRun, State.pastFetched]

end Sys2Proof.Machine

open Sys2Proof Sys2Proof.Machine Sys2Proof.Claims

/-- Settles O60. Both states fetch the same instruction, whose form does the same to what a program observes and takes
the same time; so the PPU is advanced alike. -/
theorem unobservableStateHasNoInfluence : Obligations.UnobservableStateHasNoInfluence := by
  intro s t s' t' same stepS stepT
  rw [(sameToProgram_iff s t).mp same] at stepT
  obtain rfl := step_next stepS
  obtain rfl := step_next stepT
  simp only [shadowCheck_withUnobserved, fetched_withUnobserved, readyToRun_withUnobserved]
  obtain ⟨observed, cost⟩ := perform_withUnobserved s.readyToRun t s.shadowCheck.fetched.form
  exact sameToProgram_ppuAdvance (sameToProgram_tick observed) cost
end

section
/-! SUPPORT. What every form leaves alone: the flags by the table of rule R25, the registers its rule does not write, and
the control state. Each frame is proved once for every form but `PREFIX CB`, which has the rows of the form it runs. -/

namespace Sys2Proof.Machine

open Sys2Proof.Claims

/-! ### `PREFIX CB` has the rows of the form that it runs -/

theorem fieldCells_eq (z : Nat) : fieldCells z = operandCells (operandOf z) := by
  rcases z with _ | _ | _ | _ | _ | _ | _ | _ <;> rfl

theorem rotOf_eq_swap_iff (y : Nat) : rotOf y = .swap ↔ y = 6 := by
  rcases y with _ | _ | _ | _ | _ | _ | _ | y <;> simp [rotOf]

theorem written_prefixCb (op2 : Byte) : written (.prefixCb op2) = written (prefixedForm op2) := by
  have bound := op2.isLt
  unfold prefixedForm
  rcases group : op2.toNat / 64 with _ | _ | _ | k
  · have : op2.toNat < 64 := by omega
    simp [written, fieldCells_eq, this]
  · have : ¬op2.toNat < 64 ∧ op2.toNat < 128 := by omega
    simp [written, this]
  all_goals
    have : ¬op2.toNat < 64 ∧ ¬op2.toNat < 128 := by omega
    simp [written, fieldCells_eq, this]

theorem flagRow_prefixCb (op2 : Byte) : flagRow (.prefixCb op2) = flagRow (prefixedForm op2) := by
  have bound := op2.isLt
  unfold prefixedForm
  rcases group : op2.toNat / 64 with _ | _ | _ | k
  · have swap : op2.toNat / 8 % 8 = 6 ↔ 48 ≤ op2.toNat ∧ op2.toNat < 56 := by omega
    have : op2.toNat < 64 := by omega
    simp [flagRow, rotOf_eq_swap_iff, swap, this]
  · have : ¬op2.toNat < 56 ∧ ¬op2.toNat < 64 ∧ op2.toNat < 128 := by omega
    simp [flagRow, this]
  all_goals
    have : ¬op2.toNat < 56 ∧ ¬op2.toNat < 64 ∧ ¬op2.toNat < 128 := by omega
    simp [flagRow, this]

/-! ### An operand written back leaves everything but its cell or byte -/

section
variable (s : State) (o : Operand8) (v : Byte)

@[simp] theorem State.setOperand8_f : (s.setOperand8 o v).f = s.f := by cases o <;> simp
@[simp] theorem State.setOperand8_sp : (s.setOperand8 o v).sp = s.sp := by cases o <;> simp
@[simp] theorem State.setOperand8_pc : (s.setOperand8 o v).pc = s.pc := by cases o <;> simp
@[simp] theorem State.setOperand8_ime : (s.setOperand8 o v).ime = s.ime := by cases o <;> simp
@[simp] theorem State.setOperand8_halted : (s.setOperand8 o v).halted = s.halted := by cases o <;> simp
@[simp] theorem State.setOperand8_stopped : (s.setOperand8 o v).stopped = s.stopped := by cases o <;> simp
@[simp] theorem State.setOperand8_clk : (s.setOperand8 o v).clk = s.clk := by cases o <;> simp
@[simp] theorem State.setOperand8_boot : (s.setOperand8 o v).boot = s.boot := by cases o <;> simp
@[simp] theorem State.setOperand8_bootRom : (s.setOperand8 o v).bootRom = s.bootRom := by cases o <;> simp
@[simp] theorem State.setOperand8_romLoaded : (s.setOperand8 o v).romLoaded = s.romLoaded := by cases o <;> simp

end

/-! ### Flags (rules R23 to R25) -/

/-- A new F that a row of the table of rule R25 allows: four flags packed as its cells say, over the old bits 3 to 0. -/
def permitsFlags (row : FlagRow) (s : State) (after : Byte) : Prop :=
  ∃ z n h c, after = packFlags z n h c s.f ∧ row.z.allows s.flagZ z ∧ row.n.allows s.flagN n ∧
    row.h.allows s.flagH h ∧ row.c.allows s.flagC c

/-- Packing the flags that F holds gives F. -/
theorem packFlags_self (s : State) : packFlags s.flagZ s.flagN s.flagH s.flagC s.f = s.f := by
  have repack : ∀ f : Byte, packFlags (f.getLsbD 7) (f.getLsbD 6) (f.getLsbD 5) (f.getLsbD 4) f = f := by decide
  exact repack s.f

/-- An F left alone is what a row of four "-" allows. -/
theorem permitsFlags_kept {s : State} {after : Byte} (same : after = s.f) :
    permitsFlags ⟨.kept, .kept, .kept, .kept⟩ s after :=
  ⟨_, _, _, _, same.trans (packFlags_self s).symm, rfl, rfl, rfl, rfl⟩

/-- The accumulator operations write the flags that their row allows, whatever the operand. -/
theorem permitsFlags_aluWith (op : AluOp) (n v : Byte) (s : State) :
    permitsFlags (flagRow (.aluImm op n)) s (aluWith op v s).f := by
  refine ⟨_, _, _, _, by rw [aluWith_eq]; rfl, ?_⟩
  cases op <;> simp [flagRow, FlagCell.allows, alu, add8, adc8, sub8, sbc8, and8, xor8, or8, aluOut]

/-- Every form but `POP AF` writes F as its row of the table allows. -/
theorem permitsFlags_perform (s : State) (form : Form) :
    form ≠ .pop .af → permitsFlags (flagRow form) s (perform form s).f := by
  induction form using forall_form with
  | through op2 run =>
    intro
    rw [flagRow_prefixCb, perform_prefixCb]
    obtain ⟨o, ⟨op, e⟩ | ⟨b, e | e | e⟩⟩ := prefixedForm_cases op2 <;> exact run (by simp [e])
  | direct form notPrefix =>
    intro notPopAf
    cases form with
    | prefixCb op2 => exact absurd rfl (notPrefix op2)
    | pop q =>
      cases q with
      | af => exact absurd rfl notPopAf
      | bc | de | hl => exact permitsFlags_kept rfl
    | aluReg op r => exact permitsFlags_aluWith op 0 (s.reg8 r) s
    | aluAtHl op => exact permitsFlags_aluWith op 0 (s.busRead s.hl) s
    | aluImm op n => exact permitsFlags_aluWith op n n s
    | rot op o =>
      refine ⟨_, _, _, _, by simp; rfl, ?_⟩
      cases op <;> simp [flagRow, FlagCell.allows, rotate, swap8]
    | incReg | decReg | incAtHl | decAtHl | addHl | addSpDisp | ldHlSpDisp | rlca | rrca | rla | rra | bitTest | daa
    | cpl | scf | ccf =>
      exact ⟨_, _, _, _, by simp; rfl, by simp [flagRow, FlagCell.allows]⟩
    | jpCond cc _ | jrCond cc _ | callCond cc _ | retCond cc =>
      cases taken : s.cond cc <;> exact permitsFlags_kept (by simp [taken])
    | _ => exact permitsFlags_kept (by simp)

/-- The four flags after a permitted write are each as the cell says. -/
theorem permitsFlags.allows {row : FlagRow} {s : State} {after : Byte} (permitted : permitsFlags row s after) :
    row.z.allows (s.f.getLsbD 7) (after.getLsbD 7) ∧ row.n.allows (s.f.getLsbD 6) (after.getLsbD 6) ∧
    row.h.allows (s.f.getLsbD 5) (after.getLsbD 5) ∧ row.c.allows (s.f.getLsbD 4) (after.getLsbD 4) := by
  obtain ⟨z, n, h, c, rfl, hz, hn, hh, hc⟩ := permitted
  obtain ⟨bitZ, bitN, bitH, bitC⟩ := packFlags_bit z n h c s.f
  rw [bitZ, bitN, bitH, bitC]
  exact ⟨hz, hn, hh, hc⟩

/-- A permitted write keeps bits 3 to 0 of F (rule R24). -/
theorem permitsFlags.low {row : FlagRow} {s : State} {after : Byte} (permitted : permitsFlags row s after) :
    after.toNat % 16 = s.f.toNat % 16 := by
  obtain ⟨z, n, h, c, rfl, -⟩ := permitted
  rw [packFlags_toNat]
  omega

/-- `POP AF` loads F from the byte at SP (rule R165). -/
theorem perform_popAf_f (s : State) : (perform (.pop .af) s).f = s.busRead s.sp := by
  simp [State.setStackPair, State.stackTop, State.busReadWord]

/-! ### Registers (rules R22 and R27) -/

section
variable (r : Register) (s : State)

@[simp] theorem value_took (k : Nat) : r.value (s.took k) = r.value s := by cases r <;> rfl
@[simp] theorem value_setPc (v : Word) : r.value (s.setPc v) = r.value s := by cases r <;> rfl
@[simp] theorem value_busWrite (addr : Word) (v : Byte) : r.value (s.busWrite addr v) = r.value s := by
  cases r <;> simp [Register.value]
@[simp] theorem value_busWriteWord (addr v : Word) : r.value (s.busWriteWord addr v) = r.value s := by
  simp [State.busWriteWord]

variable {r}

@[simp] theorem value_setA (v : Byte) (other : r ≠ .a) : r.value (s.setA v) = r.value s := by
  cases r with
  | a => exact absurd rfl other
  | _ => rfl

@[simp] theorem value_setFlags (z n h c : Bool) (other : r ≠ .f) : r.value (s.setFlags z n h c) = r.value s := by
  cases r with
  | f => exact absurd rfl other
  | _ => rfl

@[simp] theorem value_setSp (v : Word) (other : r ≠ .sp) : r.value (s.setSp v) = r.value s := by
  cases r with
  | sp => exact absurd rfl other
  | _ => rfl

@[simp] theorem value_setHl (v : Word) (notH : r ≠ .h) (notL : r ≠ .l) : r.value (s.setHl v) = r.value s := by
  cases r with
  | h => exact absurd rfl notH
  | l => exact absurd rfl notL
  | _ => rfl

@[simp] theorem value_pushWord (v : Word) (other : r ≠ .sp) : r.value (s.pushWord v) = r.value s := by
  simp [State.pushWord, other]

@[simp] theorem value_callTo (target : Word) (other : r ≠ .sp) : r.value (s.callTo target) = r.value s := by
  simp [State.callTo, other]

@[simp] theorem value_setReg8 {dst : Reg8} (v : Byte) (other : r ≠ registerOf dst) :
    r.value (s.setReg8 dst v) = r.value s := by
  revert other
  cases dst <;> cases r <;> simp [registerOf, Register.value, State.setReg8]

@[simp] theorem value_setPair {rp : Pair} (v : Word) (other : r ∉ cellsOf rp) :
    r.value (s.setPair rp v) = r.value s := by
  revert other
  cases rp <;> cases r <;> simp [cellsOf, Register.value, State.setPair]

@[simp] theorem value_setStackPair {q : StackPair} (v : Word) (other : r ∉ stackCellsOf q) :
    r.value (s.setStackPair q v) = r.value s := by
  revert other
  cases q <;> cases r <;> simp [stackCellsOf, Register.value, State.setStackPair]

@[simp] theorem value_setOperand8 {o : Operand8} (v : Byte) (other : r ∉ operandCells o) :
    r.value (s.setOperand8 o v) = r.value s := by
  cases o with
  | reg dst => exact value_setReg8 s v fun same => other (by simp [operandCells, same])
  | atHl => simp

/-- An accumulator operation writes F, and A unless it is CP (rule R183). -/
theorem value_aluWith (op : AluOp) (v : Byte) (other : r ∉ if op = .cp then [Register.f] else [.a, .f]) :
    r.value (aluWith op v s) = r.value s := by
  by_cases compare : op = .cp
  · subst compare
    exact value_setFlags s _ _ _ _ (by simpa using other)
  · have ⟨notA, notF⟩ : r ≠ .a ∧ r ≠ .f := by simpa [compare] using other
    simp [aluWith_eq, notA, notF]

end

/-- Every register keeps its value but those a form writes. -/
theorem value_perform {r : Register} (s : State) (form : Form) :
    r ∉ written form → r.value (perform form s) = r.value s := by
  induction form using forall_form with
  | through op2 run => simpa only [written_prefixCb, perform_prefixCb] using run
  | direct form notPrefix =>
    intro other
    cases form with
    | prefixCb op2 => exact absurd rfl (notPrefix op2)
    | halt | stop | di | ei => cases r <;> rfl
    | aluReg op | aluAtHl op | aluImm op => simpa using value_aluWith s op _ other
    | jpCond cc | jrCond cc => cases taken : s.cond cc <;> simp [taken]
    | callCond cc | retCond cc =>
      have notSp : r ≠ .sp := by simpa [written] using other
      cases taken : s.cond cc <;> simp [taken, notSp]
    | _ => simp [written] at other; simp [other]

/-! ### Control state (rules R30, R31, R35 and R36) -/

/-- IME after a form: DI clears it and EI sets it. -/
def imeAfter (form : Form) (before : Bool) : Bool := if form = .di then false else if form = .ei then true else before

/-- IME and the two latches are written by their own instructions only, and the rest of the control state by none. -/
theorem perform_control (s : State) (form : Form) :
    (perform form s).ime = imeAfter form s.ime ∧
    (perform form s).halted = (s.halted || decide (form = .halt)) ∧
    (perform form s).stopped = (s.stopped || decide (form = .stop)) ∧
    (perform form s).boot = s.boot ∧ (perform form s).bootRom = s.bootRom ∧ (perform form s).clk = s.clk ∧
    (perform form s).romLoaded = s.romLoaded := by
  cases form with
  | prefixCb op2 =>
    rw [perform_prefixCb]
    obtain ⟨o, ⟨op, e⟩ | ⟨b, e | e | e⟩⟩ := prefixedForm_cases op2 <;> simp [e, imeAfter]
  | jpCond cc | jrCond cc | callCond cc | retCond cc => cases taken : s.cond cc <;> simp [taken, imeAfter]
  | aluReg | aluAtHl | aluImm => simp [aluWith_eq, imeAfter]
  | _ => simp [imeAfter]

/-! ### Where the next state of an instruction comes from -/

theorem exec_next {i : Instr} {s t : State} (next : exec i s = .next t) : t = perform i.form s := by
  rw [exec_eq_perform] at next
  exact (Host.Outcome.next.inj next).symm

end Sys2Proof.Machine

open Sys2Proof Sys2Proof.Machine Sys2Proof.Claims

/-- Settles O10. `POP AF` computes all four flags; every other form packs flags that its row of the table allows. -/
theorem flagsChangeOnlyAsTabled : Obligations.FlagsChangeOnlyAsTabled := by
  intro i s t next
  rw [exec_next next]
  by_cases popAf : i.form = .pop .af
  · rw [popAf]
    exact ⟨trivial, trivial, trivial, trivial⟩
  · exact (permitsFlags_perform s i.form popAf).allows

/-- Settles O11. Every form but `POP AF` packs its flags over the old bits 3 to 0. -/
theorem lowBitsOfFlagsWrittenByPopAfOnly : Obligations.LowBitsOfFlagsWrittenByPopAfOnly := by
  intro i s t next
  rw [exec_next next]
  exact ⟨fun notPopAf => (permitsFlags_perform s i.form notPopAf).low, fun popAf => by rw [popAf, perform_popAf_f]⟩

/-- Settles O12, by the frame of every form. -/
theorem registersChangeOnlyAsRuled : Obligations.RegistersChangeOnlyAsRuled := by
  intro i s t next r other
  rw [exec_next next]
  exact value_perform s i.form other

/-- Settles O13, by the control state after every form. -/
theorem controlStateChangesOnlyAsRuled : Obligations.ControlStateChangesOnlyAsRuled := by
  intro i s t next
  rw [exec_next next]
  obtain ⟨ime, rest⟩ := perform_control s i.form
  rw [ime]
  refine ⟨fun di => ?_, fun ei => ?_, fun notDi notEi => ?_, rest⟩
  · rw [di]; rfl
  · rw [ei]; rfl
  · simp [imeAfter, notDi, notEi]
end

section
/-! SUPPORT. The length of an instruction, read off the opcode tables and off its encoding, and the program counter
after the forms that leave it alone (rules R26, R101 and R104). -/

namespace Sys2Proof

/-- A cell asks for as many bytes as the encoding of each instruction it answers has. -/
def Cell.lengthIsEncoded (cell : Cell) : Prop := ∀ b1 b2 : Byte, (encode (cell.instr b1 b2)).length = cell.length

/-- What holds of every entry of a list and of the default holds of a lookup. -/
theorem forall_getD {α : Type} {P : α → Prop} {entries : List α} {default : α} (inside : ∀ x ∈ entries, P x)
    (outside : P default) (k : Nat) : P (entries.getD k default) := by
  rw [List.getD_eq_getElem?_getD]
  cases entry : entries[k]? with
  | none => exact outside
  | some x => exact inside x (List.mem_of_getElem? entry)

/-- Every prefixed instruction is encoded in two bytes (rule R110). -/
theorem length_encode_prefixedInstr : ∀ op2 : Byte, (encode (prefixedInstr op2)).length = 2 := by decide

/-- Every cell of the primary table asks for the bytes its instructions are encoded in. -/
theorem primaryTable_lengthIsEncoded : ∀ row ∈ primaryTable, ∀ cell ∈ row, cell.lengthIsEncoded := by
  have prefixCell : Cell.cbPrefix.lengthIsEncoded := fun op2 _ => length_encode_prefixedInstr op2
  have table : primaryTable.Forall (·.Forall Cell.lengthIsEncoded) := by
    simp only [primaryTable, List.Forall, prefixCell, true_and]
    constructorm* _ ∧ _
    all_goals exact fun _ _ => rfl
  simpa [List.forall_iff_forall_mem] using table

/-- An instruction is as long as its first byte says: the tables and the encoding agree (rule R101). -/
theorem length_encode_decodeInstr (b0 b1 b2 : Byte) : (encode (decodeInstr b0 b1 b2)).length = decodeLength b0 := by
  have nop : (Cell.code .nop).lengthIsEncoded := fun _ _ => rfl
  have row := forall_getD (P := fun row : List Cell => ∀ cell ∈ row, cell.lengthIsEncoded)
    primaryTable_lengthIsEncoded (default := []) (by simp) (b0.toNat / 16)
  exact forall_getD (P := Cell.lengthIsEncoded) row nop (b0.toNat % 16) b1 b2

namespace Machine

open Sys2Proof.Claims

/-! ### The program counter -/

theorem holds_eq_cond (cc : Cond) (s : State) : holds cc s = s.cond cc := by cases cc <;> rfl

/-- The shadow check keeps BOOT only while PC is in the boot ROM (rule R66). -/
theorem shadowCheck_eq (s : State) : s.shadowCheck = { s with boot := s.boot && decide (s.pc.toNat ≤ 0xFF) } := by
  unfold State.shadowCheck
  by_cases above : s.pc.toNat > 0x00FF
  · have : ¬s.pc.toNat ≤ 255 := by omega
    simp [above, this]
  · have : s.pc.toNat ≤ 255 := by omega
    simp [this]

/-- A form that is no transfer, or whose condition is false, leaves PC past the instruction (rules R26 and R240). -/
theorem perform_pc (s : State) (form : Form) :
    (transfers form = false ∨ ∃ cc, conditionOf form = some cc ∧ s.cond cc = false) → (perform form s).pc = s.pc := by
  induction form using forall_form with
  | through op2 run =>
    intro
    rw [perform_prefixCb]
    obtain ⟨o, ⟨op, e⟩ | ⟨b, e | e | e⟩⟩ := prefixedForm_cases op2 <;> exact run (.inl (by rw [e]; rfl))
  | direct form notPrefix =>
    intro stays
    cases form with
    | prefixCb op2 => exact absurd rfl (notPrefix op2)
    | jp | jpHl | jr | call | ret | rst | reti => simp [transfers, conditionOf] at stays
    | jpCond cc | jrCond cc | callCond cc | retCond cc =>
      have untaken : s.cond cc = false := by simpa [transfers, conditionOf] using stays
      simp [untaken]
    | aluReg | aluAtHl | aluImm => simp [aluWith_eq]
    | _ => simp

/-- The fetched instruction, by the bytes at PC that decode to it. -/
theorem fetched_eq_of_decode {s : State} {i : Instr} {rest : List Byte}
    (found : decode [s.busRead s.pc, s.busRead (s.pc + 1), s.busRead (s.pc + 2)] = .ok (i, rest)) : s.fetched = i := by
  rw [decode_decodeInstr] at found
  exact (Prod.mk.inj (Except.ok.inj found)).1

/-- The post-operand PC is as far on as the fetched instruction's encoding is long (rules R26 and R104). -/
theorem readyToRun_pc (s : State) :
    s.readyToRun.pc = s.pc + BitVec.ofNat 16 (encode s.shadowCheck.fetched).length := by
  have samePc : s.shadowCheck.pc = s.pc := by rw [shadowCheck_eq]
  simp [State.readyToRun, State.pastFetched, State.fetched, length_encode_decodeInstr, samePc]

/-- The shadow check and the fetch leave the flags alone. -/
theorem cond_readyToRun (s : State) (cc : Cond) : s.readyToRun.cond cc = s.cond cc := by
  have sameF : s.readyToRun.f = s.f := by rw [State.readyToRun, shadowCheck_eq]; rfl
  cases cc <;> simp [State.cond, State.flagZ, State.flagC, sameF]

end Machine

end Sys2Proof

open Sys2Proof Sys2Proof.Machine Sys2Proof.Claims

/-- Settles O8. The fetch moves PC by the length of the instruction, and the form leaves it there. -/
theorem untakenInstructionAdvancesPcByLength : Obligations.UntakenInstructionAdvancesPcByLength := by
  intro s t i rest u found untaken next
  have checked : s.shadowCheck = u := shadowCheck_eq s
  have fetched : s.shadowCheck.fetched = i := fetched_eq_of_decode (checked ▸ found)
  have stays : (perform i.form s.readyToRun).pc = s.readyToRun.pc :=
    perform_pc _ _ (by simpa only [holds_eq_cond, cond_readyToRun] using untaken)
  obtain rfl := step_next next
  rw [State.ppuAdvance_pc, State.tick_pc, fetched, stays, readyToRun_pc, fetched]
end

section
/-! SUPPORT. Cells and pairs (rules R20 and R21), and the state after reset (rule R46). -/

namespace Sys2Proof.Machine

/-- A pair written reads back, and no other pair changes. -/
theorem State.pair_setPair (s : State) (rp rp' : Pair) (v : Word) :
    (s.setPair rp v).pair rp' = if rp' = rp then v else s.pair rp' := by
  cases rp <;> cases rp' <;> simp [State.setPair, State.pair, State.bc, State.de, State.hl]

/-- A register written reads back, and no other register changes. -/
theorem State.reg8_setReg8 (s : State) (r r' : Reg8) (v : Byte) :
    (s.setReg8 r v).reg8 r' = if r' = r then v else s.reg8 r' := by
  cases r <;> cases r' <;> rfl

/-- The bytes of an image, by index. -/
theorem getElem_imageFrom (image : Nat → Byte) (i count k : Nat) (inside : k < (imageFrom image i count).length) :
    (imageFrom image i count)[k] = image (i + k) := by
  induction count generalizing i k with
  | zero => simp [imageFrom] at inside
  | succ n ih =>
    cases k with
    | zero => rfl
    | succ k =>
      simp only [imageFrom, List.getElem_cons_succ, ih]
      congr 1; omega

theorem bootRomImage_get (i : Fin 256) : bootRomImage[i] = Config.bootRom i := by
  simp [bootRomImage, getElem_imageFrom]

end Sys2Proof.Machine

open Sys2Proof Sys2Proof.Machine

/-- Settles O27. Halves and joins give the cells as numbers; every frame is the update itself, pair by pair and register
by register. -/
theorem cellsAndPairs : Obligations.CellsAndPairs := by
  refine ⟨fun s v => ?_, fun s => ?_, fun s v => ?_, State.pair_setPair, fun s rp v => ?_, State.reg8_setReg8,
    fun s r v => ?_, fun s z n h c => rfl⟩
  · simp [hiByte_toNat, loByte_toNat]
  · simp [State.bc, State.de, State.hl, State.af, joinBytes_toNat]
  · exact ⟨rfl, rfl, rfl, rfl, rfl, rfl⟩
  · cases rp <;> rfl
  · cases r <;> rfl

/-- Settles O15. The boot ROM is the open parameter byte by byte; everything else is a constant of the reset state. -/
theorem resetValues : Obligations.ResetValues := by
  refine ⟨by decide, by decide, bootRomImage_get, fun _ => rfl, by decide, rfl, rfl, rfl, fun t y x => ?_,
    fun y x => ?_⟩
  · simp [State.reset, Ppu.reset, blankTiles]
  · simp [State.reset, Ppu.reset, blankFrame]
end

section
/-! SUPPORT. Memories by what they hold (rules R69 and R85): a key below or between the pairs reads 0, so the canonical
form is decided by its reads; and what a memory reads after a cartridge image is loaded. -/

namespace Sys2Proof.Machine

/-! ### Reads outside a memory's pairs -/

/-- A key that no pair has reads 0. -/
theorem Memory.Free.read_eq_zero {m : Memory} {key : Nat} (free : m.Free key) : m.read key = 0 := by
  induction m with
  | nil => rfl
  | cons cell rest ih =>
    obtain ⟨k, v⟩ := cell
    have apart : k ≠ key := free (k, v) (by simp)
    simpa [Memory.read, apart] using ih fun c inRest => free c (by simp [inRest])

/-- A key below every pair reads 0. -/
theorem Memory.From.read_eq_zero {m : Memory} {low key : Nat} (above : m.From low) (below : key < low) :
    m.read key = 0 :=
  Memory.Free.read_eq_zero fun cell inside => by have := above cell inside; omega

/-- A canonical memory reads something other than 0 at the key of its first pair, and 0 below it. -/
theorem Memory.wf_head {k : Nat} {v : Byte} {rest : Memory} (ok : Memory.wf ((k, v) :: rest) = true) :
    Memory.read ((k, v) :: rest) k ≠ 0 ∧ ∀ key, key < k → Memory.read ((k, v) :: rest) key = 0 := by
  obtain ⟨nonzero, above, -⟩ := (Memory.wf_cons k v rest).mp ok
  refine ⟨by simpa [Memory.read] using nonzero, fun key below => ?_⟩
  simpa [Memory.read, below.ne'] using above.read_eq_zero (by omega)

/-- Memories in the canonical form that read alike are the same list. -/
theorem Memory.eq_of_read_eq {m n : Memory} (okM : m.wf = true) (okN : n.wf = true)
    (alike : ∀ key, m.read key = n.read key) : m = n := by
  induction m generalizing n with
  | nil =>
    cases n with
    | nil => rfl
    | cons cell rest => exact absurd (alike cell.1).symm (Memory.wf_head okN).1
  | cons cell rest ih =>
    obtain ⟨k, v⟩ := cell
    cases n with
    | nil => exact absurd (alike k) (Memory.wf_head okM).1
    | cons cell' rest' =>
      obtain ⟨k', v'⟩ := cell'
      obtain ⟨headM, belowM⟩ := Memory.wf_head okM
      obtain ⟨headN, belowN⟩ := Memory.wf_head okN
      have sameKey : k = k' := by
        rcases Nat.lt_trichotomy k k' with lt | same | gt
        · exact absurd ((alike k).trans (belowN k lt)) headM
        · exact same
        · exact absurd ((alike k').symm.trans (belowM k' gt)) headN
      subst sameKey
      obtain ⟨-, aboveM, tailM⟩ := (Memory.wf_cons k v rest).mp okM
      obtain ⟨-, aboveN, tailN⟩ := (Memory.wf_cons k v' rest').mp okN
      have sameByte : v = v' := by simpa [Memory.read] using alike k
      have sameRest : rest = rest' := ih tailM tailN fun key => by
        by_cases here : k = key
        · rw [aboveM.read_eq_zero (by omega), aboveN.read_eq_zero (by omega)]
        · simpa [Memory.read, here] using alike key
      rw [sameByte, sameRest]

/-! ### A cartridge image -/

/-- Two memories one after the other: a key that the first does not have is read from the second. -/
theorem Memory.read_append_of_free {m : Memory} (n : Memory) {key : Nat} (free : m.Free key) :
    Memory.read (m ++ n) key = n.read key := by
  induction m with
  | nil => rfl
  | cons cell rest ih =>
    obtain ⟨k, v⟩ := cell
    have apart : k ≠ key := free (k, v) (by simp)
    simpa [Memory.read, apart] using ih fun c inRest => free c (by simp [inRest])

/-- Two memories one after the other: a key that the second does not have is read from the first. -/
theorem Memory.read_append_left (m : Memory) {n : Memory} {key : Nat} (free : n.Free key) :
    Memory.read (m ++ n) key = m.read key := by
  induction m with
  | nil => exact free.read_eq_zero
  | cons cell rest ih =>
    obtain ⟨k, v⟩ := cell
    by_cases here : k = key <;> simp [Memory.read, here, ih]

/-- Taking pairs out leaves the reads of keys whose pairs stay. -/
theorem Memory.read_filter (m : Memory) {key : Nat} (keep : Host.Cell → Bool) (kept : ∀ v, keep (key, v) = true) :
    Memory.read (m.filter keep) key = m.read key := by
  induction m with
  | nil => rfl
  | cons cell rest ih =>
    obtain ⟨k, v⟩ := cell
    by_cases here : k = key
    · subst here; simp [Memory.read, kept]
    · by_cases stays : keep (k, v) = true <;> simp [Memory.read, stays, here, ih]

/-- The first cell of an image, and then the cells of its rest: a first byte of 0 leaves no pair and reads the same. -/
theorem read_romCells_cons (v : Byte) (rest : List Byte) (start n key : Nat) :
    Memory.read (romCells (v :: rest) start (n + 1)) key =
      if start = key then v else Memory.read (romCells rest (start + 1) n) key := by
  have later : Memory.From (start + 1) (romCells rest (start + 1) n) := fun c inside =>
    (romCells_bounds rest (start + 1) n c inside).1
  rw [romCells]
  split
  · next zero =>
    split
    · next here => rw [later.read_eq_zero (by omega), zero]
    · rfl
  · rfl

/-- An image as cells: the bytes of the image in their places, as many as there is room for. -/
theorem read_romCells (image : List Byte) (start count k : Nat) (room : k < count) :
    Memory.read (romCells image start count) (start + k) = image.getD k 0 := by
  induction image generalizing start count k with
  | nil => rfl
  | cons v rest ih =>
    obtain ⟨n, rfl⟩ : ∃ n, count = n + 1 := ⟨count - 1, by omega⟩
    rw [read_romCells_cons]
    cases k with
    | zero => simp
    | succ k =>
      rw [if_neg (by omega), List.getD_cons_succ, ← ih (start + 1) n k (by omega)]
      congr 1; omega

/-- Below 0x8000 a loaded cartridge reads the image's bytes, and zeros past its end (rule R69). -/
theorem Memory.read_withRom_low (m : Memory) (image : List Byte) {key : Nat} (rom : key < 0x8000) :
    (m.withRom image).read key = image.getD key 0 := by
  have free : Memory.Free (m.filter fun cell => decide (0x8000 ≤ cell.1)) key := fun c inside => by
    have : 0x8000 ≤ c.1 := by simpa using (List.mem_filter.mp inside).2
    omega
  rw [Memory.withRom, Memory.read_append_left _ free]
  simpa using read_romCells image 0 0x8000 key rom

/-- From 0x8000 on a loaded cartridge changes no byte (rule R69). -/
theorem Memory.read_withRom_high (m : Memory) (image : List Byte) {key : Nat} (ram : 0x8000 ≤ key) :
    (m.withRom image).read key = m.read key := by
  have free : Memory.Free (romCells image 0 0x8000) key := fun c inside => by
    have := (romCells_bounds image 0 0x8000 c inside).2
    omega
  rw [Memory.withRom, Memory.read_append_of_free _ free]
  exact m.read_filter _ fun _ => decide_eq_true ram

/-- The cartridge ROM is an array, so loading it lists bytes of arrays only. -/
theorem Memory.onlyStorage_withRom {m : Memory} (image : List Byte) (ok : m.onlyStorage = true) :
    (m.withRom image).onlyStorage = true := by
  refine List.all_eq_true.mpr fun cell inside => ?_
  rcases List.mem_append.mp inside with fromImage | kept
  · have := (romCells_bounds image 0 0x8000 cell fromImage).2
    simp [isStorageKey]; omega
  · exact List.all_eq_true.mp ok cell (List.mem_of_mem_filter kept)

/-- Loading a cartridge keeps the invariant: it writes below video RAM, where no tile is. -/
theorem State.Inv.withRom {s : State} (inv : s.Inv) (image : List Byte) (loaded : Bool) :
    { s with mem := s.mem.withRom image, romLoaded := loaded }.Inv where
  canonical := Memory.wf_withRom image inv.canonical
  onlyStorage := Memory.onlyStorage_withRom image inv.onlyStorage
  tiles := by
    have sameVram : ∀ off, vramByte (s.mem.withRom image) off = vramByte s.mem off := fun off =>
      s.mem.read_withRom_high image (by omega)
    simpa only [tilesMatch, sameVram] using inv.tiles
  schedule := inv.schedule

end Sys2Proof.Machine

open Sys2Proof Sys2Proof.Machine

/-- Settles O26, by induction on the two lists: their first keys are the least ones that do not read 0. -/
theorem canonicalMemoriesThatReadAlikeAreEqual : Obligations.CanonicalMemoriesThatReadAlikeAreEqual :=
  fun _ _ okM okN alike => Memory.eq_of_read_eq okM okN alike

/-- Settles O25. The image fills the keys below 0x8000, and the keys from there on are kept. -/
theorem loadRomFillsCartridge : Obligations.LoadRomFillsCartridge := by
  intro s image
  refine ⟨fun fresh unstarted => ⟨_, if_neg (by simp [fresh, unstarted]), rfl, ?_, ?_, ?_⟩, fun spent => if_pos spent⟩
  · exact fun key rom => s.mem.read_withRom_low image rom
  · exact fun key ram => s.mem.read_withRom_high image ram
  · exact fun inv => inv.withRom image true
end

section
/-! SUPPORT. One equation for a bus access in each range of addresses (rules R62 and R63), and what a write leaves of
the memory and of the PPU registers. A read after a write is then one case for each kind of storage. -/

namespace Sys2Proof.Machine

/-! ### Addresses -/

/-- The key of the storage an address names (rule R68). -/
theorem backing_toNat (addr : Word) :
    (backing addr).toNat =
      if 0xE000 ≤ addr.toNat ∧ addr.toNat ≤ 0xFDFF then addr.toNat - 0x2000 else addr.toNat := by
  have bound := addr.isLt
  unfold backing
  split
  · rw [BitVec.toNat_sub]; simp; omega
  · rfl

/-- Outside the mirror an address names its own storage. -/
theorem backing_eq_self {addr : Word} (own : ¬(0xE000 ≤ addr.toNat ∧ addr.toNat ≤ 0xFDFF)) : backing addr = addr :=
  if_neg own

/-- The keys of the arrays, as numbers (rule R61). -/
theorem isStorageKey_iff (key : Nat) :
    isStorageKey key = true ↔
      key ≤ 0xDFFF ∨ (0xFE00 ≤ key ∧ key ≤ 0xFE9F) ∨ (0xFF00 ≤ key ∧ key ≤ 0xFF3F) ∨
        (0xFF48 ≤ key ∧ key ≤ 0xFFFF) := by
  simp [isStorageKey, or_assoc]

/-! ### Reads -/

section
variable {s : State} {addr : Word}

/-- While BOOT is on the low 256 addresses read the boot ROM (rule R67). -/
theorem State.busRead_of_shadowed (on : s.boot = true) (low : addr.toNat < 256) :
    s.busRead addr = s.bootRom[addr.toNat] := by
  rcases s.busRead_cases addr with ⟨-, _, e⟩ | ⟨unshadowed, -⟩ | ⟨hole, -⟩ | ⟨register, -⟩
  · exact e
  · exact absurd ⟨on, low⟩ unshadowed
  · omega
  · omega

/-- An address of an array reads the byte of the storage it names, unless the boot shadow covers it. -/
theorem State.busRead_of_storage (unshadowed : ¬(s.boot = true ∧ addr.toNat < 256))
    (array : isStorageKey (backing addr).toNat = true) : s.busRead addr = s.mem.read (backing addr).toNat := by
  rw [isStorageKey_iff, backing_toNat] at array
  rcases s.busRead_cases addr with ⟨on, low, -⟩ | ⟨-, -, e⟩ | ⟨above, below, -⟩ | ⟨above, below, -⟩
  · exact absurd ⟨on, low⟩ unshadowed
  · exact e
  · split at array <;> omega
  · split at array <;> omega

/-- Below 0x8000 what the boot shadow does not cover reads cartridge ROM (rule R67). -/
theorem State.busRead_of_rom (unshadowed : ¬(s.boot = true ∧ addr.toNat < 256)) (rom : addr.toNat < 0x8000) :
    s.busRead addr = s.mem.read addr.toNat := by
  have own : backing addr = addr := backing_eq_self (by omega)
  rw [State.busRead_of_storage unshadowed ((isStorageKey_iff _).mpr (by rw [own]; omega)), own]

/-- 0xFF40 to 0xFF47 read the PPU registers (rule R307). -/
theorem State.busRead_of_register (above : 0xFF40 ≤ addr.toNat) (below : addr.toNat ≤ 0xFF47) :
    s.busRead addr = s.ppu.readRegister addr.toNat := by
  rcases s.busRead_cases addr with ⟨-, low, -⟩ | ⟨-, array, -⟩ | ⟨-, hole, -⟩ | ⟨-, -, e⟩
  · omega
  · rw [isStorageKey_iff, backing_toNat] at array
    split at array <;> omega
  · omega
  · exact e

/-- 0xFEA0 to 0xFEFF read 0 (rule R75). -/
theorem State.busRead_of_hole (above : 0xFEA0 ≤ addr.toNat) (below : addr.toNat ≤ 0xFEFF) : s.busRead addr = 0 := by
  rcases s.busRead_cases addr with ⟨-, low, -⟩ | ⟨-, array, -⟩ | ⟨-, -, e⟩ | ⟨register, -⟩
  · omega
  · rw [isStorageKey_iff, backing_toNat] at array
    split at array <;> omega
  · exact e
  · omega

/-- An address reads alike in two states with the same boot shadow whose storage for it holds the same: the byte it
names and, where it is one, the PPU register. -/
theorem State.busRead_frame {t : State} (boot : t.boot = s.boot) (rom : t.bootRom = s.bootRom)
    (cell : t.mem.read (backing addr).toNat = s.mem.read (backing addr).toNat)
    (register : t.ppu.readRegister addr.toNat = s.ppu.readRegister addr.toNat) : t.busRead addr = s.busRead addr := by
  rcases s.busRead_cases addr with ⟨on, low, e⟩ | ⟨unshadowed, array, e⟩ | ⟨above, below, e⟩ | ⟨above, below, e⟩ <;>
    rw [e]
  · simp only [State.busRead_of_shadowed (boot.trans on) low, rom]
  · rw [State.busRead_of_storage (by rwa [boot]) array, cell]
  · exact State.busRead_of_hole above below
  · rw [State.busRead_of_register above below, register]

end

/-! ### PPU registers -/

/-- A register write leaves what the other registers read (rule R308). -/
theorem Ppu.readRegister_writeRegister_other (p : Ppu) {addr other : Nat} (v : Byte) (apart : other ≠ addr) :
    (p.writeRegister addr v).readRegister other = p.readRegister other := by
  unfold Ppu.writeRegister
  split
  · next lcdc => subst lcdc; simp only [Ppu.readRegister, if_neg apart]
  split
  · next scy => subst scy; simp only [Ppu.readRegister, if_neg apart]
  split
  · next scx => subst scx; simp only [Ppu.readRegister, if_neg apart]
  split
  · next bgp => subst bgp; simp only [Ppu.readRegister, if_neg apart]
  · rfl

/-- BGP reads as the byte that set its four entries (rule R306). -/
theorem packPalette_unpackPalette : ∀ v : Byte, packPalette (unpackPalette v) = v := by decide

/-- The addresses with a writable register read back what was written (rules R301 to R303 and R306). -/
theorem Ppu.readRegister_writeRegister_same (p : Ppu) {addr : Nat} (v : Byte)
    (writable : addr = 0xFF40 ∨ addr = 0xFF42 ∨ addr = 0xFF43 ∨ addr = 0xFF47) :
    (p.writeRegister addr v).readRegister addr = v := by
  rcases writable with rfl | rfl | rfl | rfl
  · rfl
  · rfl
  · rfl
  · exact packPalette_unpackPalette v

/-- LY and the addresses without a register drop a write (rules R304 and R305). -/
theorem Ppu.writeRegister_of_not_writable (p : Ppu) {addr : Nat} (v : Byte)
    (dropped : ¬(addr = 0xFF40 ∨ addr = 0xFF42 ∨ addr = 0xFF43 ∨ addr = 0xFF47)) : p.writeRegister addr v = p := by
  simp only [not_or] at dropped
  obtain ⟨notLcdc, notScy, notScx, notBgp⟩ := dropped
  simp only [Ppu.writeRegister, notLcdc, notScy, notScx, notBgp, if_false]

/-! ### Writes -/

/-- The addresses that store what is written to them, as numbers. -/
theorem stores_iff (addr : Word) :
    stores addr = true ↔
      ((0x8000 ≤ addr.toNat ∧ addr.toNat ≤ 0xFE9F) ∨ 0xFF00 ≤ addr.toNat) ∧
        addr.toNat ≠ 0xFF41 ∧ addr.toNat ≠ 0xFF44 ∧ addr.toNat ≠ 0xFF45 ∧ addr.toNat ≠ 0xFF46 := by
  simp [stores, BitVec.toNat_eq, and_assoc]

section
variable (s : State) {addr : Word} (v : Byte)

/-- An address that stores nothing drops a write (decisions D11 to D13 of the spec). -/
theorem State.busWrite_of_not_stores (drops : stores addr = false) : s.busWrite addr v = s := by
  have outside := mt (stores_iff addr).mpr (by simp [drops])
  rcases s.busWrite_cases addr v with ⟨e, -⟩ | ⟨-, storing, -⟩ | ⟨off, lt, place, -⟩ | ⟨above, below, e⟩
  · exact e
  · exact absurd ((stores_iff addr).mp storing) outside
  · omega
  · rw [e, Ppu.writeRegister_of_not_writable _ _ (by omega)]

/-- Video RAM stores its byte and decodes the row (rule R72). -/
theorem State.busWrite_of_vram (above : 0x8000 ≤ addr.toNat) (below : addr.toNat ≤ 0x9FFF) :
    s.busWrite addr v = s.storeVram (addr.toNat - 0x8000) v := by
  simp only [State.busWrite, show ¬addr.toNat ≤ 0x7FFF by omega, below, if_true, if_false]

/-- From external RAM to the end of the mirror a write stores the byte of the storage the address names (rule R68). -/
theorem State.busWrite_of_ram (above : 0xA000 ≤ addr.toNat) (below : addr.toNat ≤ 0xFDFF) :
    s.busWrite addr v = s.storeCell (backing addr).toNat v := by
  have storing := (stores_iff addr).mpr (by omega)
  rcases s.busWrite_cases addr v with ⟨-, drops⟩ | ⟨e, -⟩ | ⟨off, lt, place, -⟩ | ⟨register, -⟩
  · simp [storing] at drops
  · exact e
  · omega
  · omega

/-- A write leaves every byte of storage but the one its address names. -/
theorem State.read_busWrite_other {key : Nat} (apart : key ≠ (backing addr).toNat) :
    (s.busWrite addr v).mem.read key = s.mem.read key := by
  rcases s.busWrite_cases addr v with ⟨e, -⟩ | ⟨e, -⟩ | ⟨off, lt, place, e⟩ | ⟨-, -, e⟩ <;> rw [e]
  · exact s.mem.read_write_other v apart
  · rw [backing_eq_self (by omega), place] at apart
    exact s.mem.read_write_other v apart

/-- A write leaves what the PPU registers at other addresses read. -/
theorem State.readRegister_busWrite_other {register : Nat} (apart : register ≠ addr.toNat) :
    (s.busWrite addr v).ppu.readRegister register = s.ppu.readRegister register := by
  rcases s.busWrite_cases addr v with ⟨e, -⟩ | ⟨e, -⟩ | ⟨off, lt, place, e⟩ | ⟨-, -, e⟩ <;> rw [e]
  · rfl
  · simp only [State.storeVram]; split <;> rfl
  · exact s.ppu.readRegister_writeRegister_other v apart

end

/-! ### A read after a write (property Q5) -/

section
variable (s : State) {a b : Word} (v : Byte)

/-- Addresses that name storage from 0x0100 on are clear of the boot shadow. -/
theorem not_shadowed_of_backing (high : 256 ≤ (backing a).toNat) : ¬(s.boot = true ∧ a.toNat < 256) := by
  rintro ⟨-, low⟩
  rw [backing_eq_self (by omega)] at high
  omega

/-- A PPU register has no second name. -/
theorem eq_of_backing_register (above : 0xFF40 ≤ a.toNat) (same : backing b = backing a) : b = a := by
  rw [backing_eq_self (addr := a) (by omega)] at same
  have key := backing_toNat b
  rw [same] at key
  split at key
  · omega
  · exact BitVec.eq_of_toNat_eq key.symm

/-- What is written at an address that stores is read through every address that names the same storage. -/
theorem State.busRead_busWrite_same (storing : stores a = true) (same : backing b = backing a) :
    (s.busWrite a v).busRead b = v := by
  rcases s.busWrite_cases a v with ⟨-, drops⟩ | ⟨e, -, array, high⟩ | ⟨off, lt, place, e⟩ | ⟨above, below, e⟩
  · simp [storing] at drops
  · have unshadowed := not_shadowed_of_backing (s.busWrite a v) (a := b) (by rw [same]; omega)
    rw [State.busRead_of_storage unshadowed (by rwa [same]), same, e]
    exact s.mem.read_write_same _ v
  · rw [backing_eq_self (addr := a) (by omega)] at same
    have unshadowed := not_shadowed_of_backing (s.busWrite a v) (a := b) (by rw [same]; omega)
    have array : isStorageKey (backing b).toNat = true := (isStorageKey_iff _).mpr (by rw [same]; omega)
    rw [State.busRead_of_storage unshadowed array, same, e, place]
    exact s.mem.read_write_same _ v
  · have writable := (stores_iff a).mp storing
    rw [eq_of_backing_register above same, State.busRead_of_register above below, e]
    exact s.ppu.readRegister_writeRegister_same v (by omega)

/-- A write is not read through an address that names other storage. -/
theorem State.busRead_busWrite_other (apart : backing b ≠ backing a) :
    (s.busWrite a v).busRead b = s.busRead b :=
  State.busRead_frame (by simp) (by simp)
    (s.read_busWrite_other v fun same => apart (BitVec.eq_of_toNat_eq same))
    (s.readRegister_busWrite_other v fun same => apart (by rw [BitVec.eq_of_toNat_eq same]))

end

/-! ### Video RAM (rules R72 and R320) -/

section
variable (s : State) (off : Nat) (v : Byte)

@[simp] theorem State.storeVram_mem : (s.storeVram off v).mem = s.mem.write (0x8000 + off) v := rfl

/-- A row of the tile cache after a video-RAM store: decoded again if the byte lies in it, else the old one. -/
theorem State.storeVram_tile {k y : Nat} (hk : k < 384) (hy : y < 8) :
    (s.storeVram off v).ppu.tile[k][y] =
      if off ≤ 0x17FF ∧ k = off / 16 ∧ y = off / 2 % 8 then
        decodeRow (vramByte (s.storeVram off v).mem (off / 2 * 2)) (vramByte (s.storeVram off v).mem (off / 2 * 2 + 1))
      else s.ppu.tile[k][y] := by
  by_cases inTiles : off ≤ 0x17FF
  · simp only [State.storeVram, inTiles, if_true, true_and, decodeTileRow_get]
  · simp only [State.storeVram, inTiles, if_false, false_and]

end

/-! ### Words (rules R64 and R65) -/

theorem succ_eq_ofNat (a : Word) : a + 1 = BitVec.ofNat 16 ((a.toNat + 1) % 65536) := by
  apply BitVec.eq_of_toNat_eq; simp

theorem loByte_eq_ofNat (v : Word) : loByte v = BitVec.ofNat 8 (v.toNat % 256) := by
  apply BitVec.eq_of_toNat_eq; simp [loByte_toNat]

theorem hiByte_eq_ofNat (v : Word) : hiByte v = BitVec.ofNat 8 (v.toNat / 256) := by
  have bound := v.isLt
  apply BitVec.eq_of_toNat_eq
  rw [hiByte_toNat, BitVec.toNat_ofNat, Nat.mod_eq_of_lt (by omega)]

end Sys2Proof.Machine

open Sys2Proof Sys2Proof.Machine

/-- Settles O22, by the kind of storage the written address names. -/
theorem readAfterWrite : Obligations.ReadAfterWrite := fun s _ _ v =>
  ⟨s.busRead_busWrite_same v, s.busRead_busWrite_other v, s.busWrite_of_not_stores v⟩

/-- Settles O21. An address of the mirror and the one 0x2000 below it name the same byte of work RAM. -/
theorem workRamMirror : Obligations.WorkRamMirror := by
  intro s a v first last
  have below : (a - 0x2000).toNat = a.toNat - 0x2000 := by
    rw [BitVec.toNat_sub]; simp; omega
  have key : (backing a).toNat = a.toNat - 0x2000 := by rw [backing_toNat, if_pos ⟨first, last⟩]
  have same : backing (a - 0x2000) = backing a := by
    apply BitVec.eq_of_toNat_eq; rw [key, backing_eq_self (by omega), below]
  have array : isStorageKey (backing a).toNat = true := (isStorageKey_iff _).mpr (by omega)
  refine ⟨?_, ?_, s.busRead_busWrite_same v ((stores_iff _).mpr (by omega)) same,
    s.busRead_busWrite_same v ((stores_iff _).mpr (by omega)) same.symm⟩
  · rw [State.busRead_of_storage (not_shadowed_of_backing s (by omega)) array,
      State.busRead_of_storage (not_shadowed_of_backing s (by rw [same]; omega)) (by rwa [same]), same]
  · rw [s.busWrite_of_ram v (by omega) (by omega), s.busWrite_of_ram v (by omega) (by omega), same]

/-- Settles O23. The halves and the next address as numbers. -/
theorem wordsAreLittleEndian : Obligations.WordsAreLittleEndian := by
  intro s a v
  rw [← succ_eq_ofNat, ← loByte_eq_ofNat, ← hiByte_eq_ofNat]
  refine ⟨?_, rfl⟩
  rw [State.busReadWord, joinBytes_toNat, Nat.add_comm]

/-- Settles O24. The write is a video-RAM store, whose decoder sets the row of the byte and no other. -/
theorem videoRamWriteDecodesItsRow : Obligations.VideoRamWriteDecodesItsRow := by
  intro s a v first last
  dsimp only
  have place : 0x8000 + (a.toNat - 0x8000) = a.toNat := by omega
  rw [s.busWrite_of_vram v first last]
  generalize a.toNat - 0x8000 = r at place
  refine ⟨by rw [State.storeVram_mem, place], fun k y x => ?_⟩
  simp only [Fin.getElem_fin, s.storeVram_tile r v k.isLt y.isLt]
  refine ⟨fun here => ?_, fun elsewhere => by simp only [if_neg elsewhere]⟩
  simp only [if_pos here, decodeRow_get _ _ _ x.isLt, vramByte, Nat.add_assoc]
end

section
/-! SUPPORT. What every form does to memory and to the PPU: bus writes at the addresses of `storedAt`, one after
another, and nothing else. What bus writes keep, every form and every step keeps. -/

namespace Sys2Proof.Machine

open Sys2Proof.Claims

/-- `t` holds the memory and the PPU that bus writes of some bytes at these addresses leave. -/
def StoresAt (t : State) : List Word → State → Prop
  | [], s => t.mem = s.mem ∧ t.ppu = s.ppu
  | a :: rest, s => ∃ v, StoresAt t rest (s.busWrite a v)

@[simp] theorem storesAt_nil (s t : State) : StoresAt t [] s ↔ t.mem = s.mem ∧ t.ppu = s.ppu := Iff.rfl

/-- `StoresAt` looks at memory and PPU only. -/
theorem storesAt_congr {t u : State} (addresses : List Word) (s : State) (mem : u.mem = t.mem) (ppu : u.ppu = t.ppu) :
    StoresAt u addresses s ↔ StoresAt t addresses s := by
  induction addresses generalizing s with
  | nil => rw [storesAt_nil, storesAt_nil, mem, ppu]
  | cons a rest ih => exact exists_congr fun v => ih (s.busWrite a v)

/-- What depends on memory and PPU only, and is kept by every bus write at the addresses, is kept. -/
theorem StoresAt.keeps {α : Sort*} {s t : State} {addresses : List Word} (stored : StoresAt t addresses s)
    (f : Memory → Ppu → α)
    (kept : ∀ a ∈ addresses, ∀ (u : State) (v : Byte), f (u.busWrite a v).mem (u.busWrite a v).ppu = f u.mem u.ppu) :
    f t.mem t.ppu = f s.mem s.ppu := by
  induction addresses generalizing s with
  | nil =>
    obtain ⟨mem, ppu⟩ := stored
    rw [mem, ppu]
  | cons a rest ih =>
    obtain ⟨v, stored⟩ := stored
    exact (ih stored fun b inRest => kept b (by simp [inRest])).trans (kept a (by simp) s v)

/-! ### Bus writes and the stack pointer -/

theorem storeVram_setSp (s : State) (sp : Word) (off : Nat) (v : Byte) :
    (s.setSp sp).storeVram off v = (s.storeVram off v).setSp sp := rfl

/-- A bus write does not look at SP. -/
theorem busWrite_setSp (s : State) (sp addr : Word) (v : Byte) :
    (s.setSp sp).busWrite addr v = (s.busWrite addr v).setSp sp := by
  unfold State.busWrite
  simp only [storeVram_setSp]
  repeat' split
  all_goals rfl

/-- A push: two bus writes below SP, low byte first, and SP two lower (rules R27 and R164). -/
theorem pushWord_eq (s : State) (v : Word) :
    s.pushWord v = ((s.busWrite (s.sp - 2) (loByte v)).busWrite (s.sp - 2 + 1) (hiByte v)).setSp (s.sp - 2) := by
  simp only [State.pushWord, State.busWriteWord, busWrite_setSp]

/-! ### The updates that the forms are made of -/

section
variable (t : State) (addresses : List Word) (s : State)

@[simp] theorem storesAt_took (k : Nat) : StoresAt (t.took k) addresses s ↔ StoresAt t addresses s :=
  storesAt_congr addresses s rfl rfl
@[simp] theorem storesAt_setFlags (z n h c : Bool) :
    StoresAt (t.setFlags z n h c) addresses s ↔ StoresAt t addresses s :=
  storesAt_congr addresses s rfl rfl
@[simp] theorem storesAt_setHl (v : Word) : StoresAt (t.setHl v) addresses s ↔ StoresAt t addresses s :=
  storesAt_congr addresses s rfl rfl
@[simp] theorem storesAt_setSp (v : Word) : StoresAt (t.setSp v) addresses s ↔ StoresAt t addresses s :=
  storesAt_congr addresses s rfl rfl
@[simp] theorem storesAt_setPc (v : Word) : StoresAt (t.setPc v) addresses s ↔ StoresAt t addresses s :=
  storesAt_congr addresses s rfl rfl

@[simp] theorem storesAt_busWrite (addr : Word) (v : Byte) : StoresAt (s.busWrite addr v) [addr] s := ⟨v, rfl, rfl⟩

@[simp] theorem storesAt_busWriteWord (addr v : Word) : StoresAt (s.busWriteWord addr v) [addr, addr + 1#16] s :=
  ⟨loByte v, hiByte v, rfl, rfl⟩

/-- A push stores the two bytes below SP. -/
@[simp] theorem storesAt_pushWord (v : Word) : StoresAt (s.pushWord v) [s.sp - 2#16, s.sp - 2#16 + 1#16] s := by
  rw [pushWord_eq, storesAt_setSp]
  exact storesAt_busWriteWord s (s.sp - 2) v

@[simp] theorem storesAt_callTo (target : Word) : StoresAt (s.callTo target) [s.sp - 2#16, s.sp - 2#16 + 1#16] s :=
  (storesAt_setPc _ _ s target).mpr (storesAt_pushWord s s.pc)

/-- An operand written back stores at HL if it is the byte there (rule R214). -/
@[simp] theorem storesAt_setOperand8 (o : Operand8) (v : Byte) :
    StoresAt (s.setOperand8 o v) (operandAddress o s) s := by
  cases o with
  | reg r => simp [operandAddress]
  | atHl => exact storesAt_busWrite s s.hl v

end

/-! ### Every form -/

section
variable (s : State)

theorem storedAt_prefixCb (op2 : Byte) : storedAt (.prefixCb op2) s = storedAt (prefixedForm op2) s := by
  have bound := op2.isLt
  have operand : operandAddress (operandOf (op2.toNat % 8)) s = if op2.toNat % 8 = 6 then [s.hl] else [] := by
    rcases operandOf_cases (op2.toNat % 8) (by omega) with ⟨six, e⟩ | ⟨notSix, r, e⟩
    · rw [e, if_pos six]; rfl
    · rw [e, if_neg notSix]; rfl
  unfold prefixedForm
  rcases group : op2.toNat / 64 with _ | _ | _ | k
  · have : ¬64 ≤ op2.toNat := by omega
    simp [storedAt, operand, this]
  · have : 64 ≤ op2.toNat ∧ op2.toNat < 128 := by omega
    simp [storedAt, this]
  all_goals
    have : ¬op2.toNat < 128 := by omega
    simp [storedAt, operand, this]

/-- Every form stores at the addresses of its rule and leaves all else of memory and PPU (rule R83). -/
theorem storesAt_perform (form : Form) : StoresAt (perform form s) (storedAt form s) s := by
  induction form using forall_form with
  | through op2 run => rwa [perform_prefixCb, storedAt_prefixCb]
  | direct form notPrefix =>
    cases form with
    | prefixCb op2 => exact absurd rfl (notPrefix op2)
    | aluReg | aluAtHl | aluImm => simp [storedAt, aluWith_eq]
    | jpCond cc | jrCond cc | callCond cc | retCond cc =>
      cases taken : s.cond cc <;> simp [storedAt, holds_eq_cond, taken]
    | _ => simp [storedAt]

end

/-! ### ROM and the boot shadow under a step -/

/-- No bus write changes a cartridge byte (rule R70). -/
theorem State.read_busWrite_rom (s : State) (addr : Word) (v : Byte) {key : Nat} (rom : key < 0x8000) :
    (s.busWrite addr v).mem.read key = s.mem.read key := by
  rcases s.busWrite_cases addr v with ⟨e, -⟩ | ⟨e, -, -, above⟩ | ⟨off, -, -, e⟩ | ⟨-, -, e⟩ <;> rw [e]
  · exact s.mem.read_write_other v (by omega)
  · exact s.mem.read_write_other v (by omega)

/-- The shadow check and the fetch write BOOT and PC only (rules R66 and R100). -/
theorem readyToRun_eq (s : State) :
    s.readyToRun = { s with boot := s.boot && decide (s.pc.toNat ≤ 0xFF), pc := s.readyToRun.pc } := by
  have checked := shadowCheck_eq s
  unfold State.readyToRun State.pastFetched
  rw [checked]
  rfl

end Sys2Proof.Machine

open Sys2Proof Sys2Proof.Machine Sys2Proof.Claims

/-- Settles O14. The form is bus writes at its stored addresses, none of which touches the byte or the register read. -/
theorem memoryChangesOnlyWhereStored : Obligations.MemoryChangesOnlyWhereStored := by
  intro i s t next
  have stored := exec_next next ▸ storesAt_perform s i.form
  obtain ⟨-, -, -, boot, rom, -⟩ := exec_next next ▸ perform_control s i.form
  refine ⟨fun addr apart => ?_, fun none => ?_⟩
  · have key : ∀ a ∈ storedAt i.form s, (backing addr).toNat ≠ (backing a).toNat := fun a inside same =>
      apart a inside (BitVec.eq_of_toNat_eq same)
    have register : ∀ a ∈ storedAt i.form s, addr.toNat ≠ a.toNat := fun a inside same =>
      apart a inside (congrArg backing (BitVec.eq_of_toNat_eq same))
    exact State.busRead_frame boot rom
      (stored.keeps (fun mem _ => mem.read (backing addr).toNat) fun a inside u v =>
        u.read_busWrite_other v (key a inside))
      (stored.keeps (fun _ ppu => ppu.readRegister addr.toNat) fun a inside u v =>
        u.readRegister_busWrite_other v (register a inside))
  · rwa [none] at stored

/-- Settles O20. A write to ROM is dropped, and every form is bus writes. -/
theorem romNeverChanges : Obligations.RomNeverChanges := by
  refine ⟨fun s a v rom => s.busWrite_of_not_stores v ?_, fun s t next => ?_⟩
  · rw [← Bool.not_eq_true, stores_iff]
    omega
  · obtain rfl := step_next next
    obtain ⟨-, -, -, -, bootRom, -⟩ := perform_control s.readyToRun s.shadowCheck.fetched.form
    have stored := storesAt_perform s.readyToRun s.shadowCheck.fetched.form
    have ready : s.readyToRun.bootRom = s.bootRom ∧ s.readyToRun.mem = s.mem := by rw [readyToRun_eq]; exact ⟨rfl, rfl⟩
    rw [State.ppuAdvance_bootRom, State.tick_bootRom, bootRom, State.ppuAdvance_mem, State.tick_mem]
    refine ⟨ready.1, fun key rom => ?_⟩
    rw [← ready.2]
    exact stored.keeps (fun mem _ => mem.read key) fun a _ u v => u.read_busWrite_rom a v rom

/-- Settles O19. The shadow check alone writes BOOT, and BOOT and the address say what a read answers. -/
theorem bootShadow : Obligations.BootShadow := by
  refine ⟨fun s t next => ?_, fun s a low => ⟨fun on => State.busRead_of_shadowed on low, fun off => ?_⟩,
    fun s a above below => ?_⟩
  · obtain rfl := step_next next
    obtain ⟨-, -, -, boot, -⟩ := perform_control s.readyToRun s.shadowCheck.fetched.form
    rw [State.ppuAdvance_boot, State.tick_boot, boot, readyToRun_eq]
  · exact State.busRead_of_rom (by simp [off]) (by omega)
  · exact State.busRead_of_rom (by omega) below
end

section
/-! SUPPORT. The decoder and the encoder against each other (rules R101 to R107): what a row of `Instr` decodes from, row
by row, and what the cells of the primary table encode to, cell by cell. -/

namespace Sys2Proof

open Sys2Proof.Machine Sys2Proof.Claims

/-! ### From the instruction to its bytes and back -/

/-- The tables hold each row but `PREFIX CB` at the opcode that its fields give, in the format that its operand needs. -/
theorem decode_encode (i : Instr) (rest : List Byte) (wf : i.wellFormed = true) :
    decode (encode i ++ rest) = .ok (i, rest) := by
  cases i with
  | prefixCb op2 => cases wf
  | ldBcNn nn | ldDeNn nn | ldHlNn nn | ldSpNn nn | ldAtNnSp nn | ldAAtNn nn | ldAtNnA nn | jpNn nn | jpNzNn nn | jpZNn nn
  | jpNcNn nn | jpCNn nn | callNn nn | callNzNn nn | callZNn nn | callNcNn nn | callCNn nn =>
    exact decode_imm16 nn rest rfl
  | ldBN n | ldCN n | ldDN n | ldEN n | ldHN n | ldLN n | ldAN n | ldAtHlN n | ldhAAtN n | ldhAtNA n | ldHlSpD n | addSpD8 n
  | addAN n | adcAN n | subN n | sbcAN n | andN n | xorN n | orN n | cpN n | jrD8 n | jrNzD8 n | jrZD8 n | jrNcD8 n
  | jrCD8 n => exact decode_imm8 n rest rfl
  -- No operand: one lookup, in the prefixed table when the encoding starts with 0xCB.
  | _ => rfl

/-! ### From the bytes to the instruction and back -/

/-- The bytes that make up an instruction, of a first byte with this cell and the two bytes after it (rule R101). -/
def Cell.bytes (op b1 b2 : Byte) : Cell → List Byte
  | .code _ => [op]
  | .imm8 _ => [op, b1]
  | .imm16 _ => opNN op (joinBytes b2 b1)
  | .cbPrefix => [op, b1]

/-- What an answer of the decoder says: the instruction of the three bytes' cell, and the bytes that make it up. -/
theorem exists_decodeInstr_of_decode {bytes rest : List Byte} {i : Instr} (answer : decode bytes = .ok (i, rest)) :
    ∃ op b1 b2, i = decodeInstr op b1 b2 ∧ bytes = (primaryCell op).bytes op b1 b2 ++ rest := by
  unfold decodeInstr
  obtain ⟨op, cell, rfl⟩ | ⟨op, mk, n, cell, rfl, rfl⟩ | ⟨op, mk, nn, cell, rfl, rfl⟩ | ⟨op, op2, cell, rfl, rfl⟩ :=
    decode_cases answer
  · exact ⟨op, 0, 0, by rw [cell]; exact ⟨rfl, rfl⟩⟩
  · exact ⟨op, n, 0, by rw [cell]; exact ⟨rfl, rfl⟩⟩
  · exact ⟨op, loByte nn, hiByte nn, by simp [cell, Cell.instr, Cell.bytes]⟩
  · exact ⟨op, op2, 0, by rw [cell]; exact ⟨rfl, rfl⟩⟩

/-- Every instruction of the cell is well formed and encoded as the bytes it was read from, when `op` came first. -/
def Cell.encodedFrom (op : Byte) (cell : Cell) : Prop :=
  ∀ b1 b2, (cell.instr b1 b2).wellFormed = true ∧ encode (cell.instr b1 b2) = cell.bytes op b1 b2

/-- The prefixed table holds well-formed instructions, each at its own second byte (rule R107). -/
theorem encode_prefixedInstr :
    ∀ op2 : Byte, (prefixedInstr op2).wellFormed = true ∧ encode (prefixedInstr op2) = [0xCB, op2] := by decide

/-- The primary table holds each cell at the byte that its instructions' encodings start with (rule R105). -/
theorem primaryTable_encodedFrom : ∀ row ∈ primaryTable.zipIdx, ∀ cell ∈ row.1.zipIdx,
    cell.1.encodedFrom (BitVec.ofNat 8 (16 * row.2 + cell.2)) := by
  -- The prefix stands at row C, column B.
  have prefixCell : Cell.cbPrefix.encodedFrom (BitVec.ofNat 8 (16 * 12 + 11)) := fun op2 _ => encode_prefixedInstr op2
  have table : primaryTable.zipIdx.Forall fun row => row.1.zipIdx.Forall fun cell =>
      cell.1.encodedFrom (BitVec.ofNat 8 (16 * row.2 + cell.2)) := by
    simp only [primaryTable, List.zipIdx_cons, List.zipIdx_nil, List.Forall, Nat.reduceAdd, prefixCell, true_and]
    constructorm* _ ∧ _
    all_goals exact fun _ _ => ⟨rfl, rfl⟩
  simpa only [List.forall_iff_forall_mem] using table

/-- What holds of every entry of a list with its index holds of a lookup inside the list. -/
theorem getD_of_forall_zipIdx {α : Type} {P : α × Nat → Prop} {entries : List α} (inside : ∀ x ∈ entries.zipIdx, P x)
    {k : Nat} (lt : k < entries.length) (default : α) : P (entries.getD k default, k) := by
  rw [← List.getElem_eq_getD (h := lt)]
  exact inside _ (List.mk_mem_zipIdx_iff_getElem?.mpr (List.getElem?_eq_getElem lt))

/-- Every row of the primary table has sixteen cells. -/
theorem length_primaryTable_row : ∀ row ∈ primaryTable, row.length = 16 := by decide

/-- The cell of a first byte answers well-formed instructions, encoded as the bytes they were read from. -/
theorem primaryCell_encodedFrom (op : Byte) : (primaryCell op).encodedFrom op := by
  have rowInside : op.toNat / 16 < primaryTable.length := by have := op.isLt; simp only [primaryTable, List.length]; omega
  have cellInside : op.toNat % 16 < (primaryTable.getD (op.toNat / 16) []).length := by
    rw [← List.getElem_eq_getD (h := rowInside), length_primaryTable_row _ (List.getElem_mem rowInside)]
    exact Nat.mod_lt _ (by decide)
  have row := getD_of_forall_zipIdx primaryTable_encodedFrom rowInside []
  have cell := getD_of_forall_zipIdx row cellInside (.code .nop)
  dsimp only at cell
  rwa [Nat.div_add_mod, BitVec.ofNat_toNat, BitVec.setWidth_eq] at cell

/-- Three bytes and what follows them decode to the instruction that a step fetches from them. -/
theorem decode_decodeInstr_append (b0 b1 b2 : Byte) (rest : List Byte) :
    decode (b0 :: b1 :: b2 :: rest) = .ok (decodeInstr b0 b1 b2, (b0 :: b1 :: b2 :: rest).drop (decodeLength b0)) := by
  simp only [decode, decodeInstr, decodeLength]
  rcases primaryCell b0 with i | mk | mk | _ <;> rfl

/-- The length that the tables give a first byte is the one of the written-out list of opcodes (rule R101). -/
theorem decodeLength_eq_lengthOf : ∀ op : Byte, decodeLength op = lengthOf op := by decide

/-- The prefixed table's row for a second byte has the fields that `PREFIX CB` runs (rules R107 and R110). -/
theorem form_prefixedInstr : ∀ op2 : Byte, (prefixedInstr op2).form = prefixedForm op2 := by decide

/-- The fetch moves PC past the bytes that the decoder took of three (rules R26 and R100). -/
theorem decodeLength_eq_of_decode {b0 b1 b2 : Byte} {i : Instr} {rest : List Byte}
    (found : decode [b0, b1, b2] = .ok (i, rest)) : decodeLength b0 = 3 - rest.length := by
  rw [decode_decodeInstr] at found
  obtain ⟨-, rfl⟩ := Prod.mk.inj (Except.ok.inj found)
  have short : decodeLength b0 ≤ 3 := by unfold decodeLength; cases primaryCell b0 <;> simp [Cell.length]
  simp only [List.length_drop, List.length_cons, List.length_nil]
  omega

end Sys2Proof

open Sys2Proof Sys2Proof.Machine Sys2Proof.Claims

/-- Settles O1, row by row of the instruction set. -/
theorem decodeUndoesEncode : Obligations.DecodeUndoesEncode := decode_encode

/-- Settles O2, cell by cell of the primary table. -/
theorem encodeUndoesDecode : Obligations.EncodeUndoesDecode := by
  intro bytes rest i answer
  obtain ⟨op, b1, b2, rfl, rfl⟩ := exists_decodeInstr_of_decode answer
  obtain ⟨wf, encoded⟩ := primaryCell_encodedFrom op b1 b2
  exact ⟨wf, congrArg (· ++ rest) encoded⟩

/-- Settles O4. The first byte's cell gives the instruction and its length. -/
theorem firstByteDecidesLength : Obligations.FirstByteDecidesLength := by
  intro b0 b1 b2 rest
  obtain ⟨wf, -⟩ := primaryCell_encodedFrom b0 b1 b2
  exact ⟨_, wf, decodeLength_eq_lengthOf b0 ▸ decode_decodeInstr_append b0 b1 b2 rest⟩

/-- Settles O52. The two rows have the same fields. -/
theorem prefixRunsTheSecondByte : Obligations.PrefixRunsTheSecondByte := by
  intro op2 s
  have same : perform (Instr.prefixCb op2).form s = perform (prefixedInstr op2).form s := by
    rw [form_prefixedInstr]; exact perform_prefixCb op2 s
  exact ⟨prefixedInstr op2, _, decode_prefixed op2 [], exec_eq_perform _ s, same ▸ exec_eq_perform _ s⟩

/-- Settles O3, one table lookup for each word. -/
theorem specWordsDecode : Obligations.SpecWordsDecode :=
  ⟨decode_imm8 _ _ rfl, decode_code _ rfl, decode_code _ rfl, decode_imm16 0xFFFE [] rfl, decode_code _ rfl,
    decode_code _ rfl, decode_imm8 _ _ rfl, decode_code _ rfl, decode_code _ rfl, decode_imm8 _ _ rfl, decode_code _ rfl,
    decode_prefixed _ _, decode_prefixed _ _, decode_prefixed _ _, decode_imm16 0x0150 [] rfl, decode_imm8 _ _ rfl,
    decode_code _ rfl, decode_code _ rfl, decode_code _ rfl⟩

/-- Settles O5. The fetch is the decoding of the three bytes at PC, and PC goes past the bytes it took. -/
theorem stepRunsDecodedInstruction : Obligations.StepRunsDecodedInstruction := by
  intro s t i rest u found next
  have checked : s.shadowCheck = u := shadowCheck_eq s
  have fetched : s.shadowCheck.fetched = i := fetched_eq_of_decode (checked ▸ found)
  have ready : s.readyToRun = { u with pc := s.pc + BitVec.ofNat 16 (3 - rest.length) } := by
    rw [State.readyToRun, checked, State.pastFetched, decodeLength_eq_of_decode found]; rfl
  rw [step_eq, fetched, ready, ← exec_next next]
  rfl
end

section
/-! SUPPORT. One rule for the statements of the families: an instruction of a form has the form's bytes and does the form's
operation. With it, the numbers in which the statements write operand bytes and addresses. -/

namespace Sys2Proof.Machine

open Sys2Proof.Claims

/-- Only `PREFIX CB`, which no bytes decode to (rule R113), is not well formed. -/
theorem wellFormed_of_form_ne_prefixCb {i : Instr} (notPrefix : ∀ op2, i.form ≠ .prefixCb op2) : i.wellFormed = true := by
  unfold Instr.wellFormed Instr.notBarePrefix
  split
  · next op2 => exact absurd rfl (notPrefix op2)
  · rfl

/-- An instruction of a form has the encoding and the meaning of the form, here given as the bytes and the next state that
a statement writes out. `PREFIX CB` alone has no encoding. -/
theorem encodedAs_and_exec_of_form {i : Instr} {s t : State} {form : Form} {bytes : List Byte}
    (encoding : form.encode = bytes) (meaning : perform form s = t)
    (notPrefix : ∀ op2, form ≠ .prefixCb op2 := by nofun) (isForm : i.form = form) :
    encodedAs i bytes ∧ exec i s = .next t := by
  subst isForm encoding meaning
  exact ⟨fun rest => decode_encode i rest (wellFormed_of_form_ne_prefixCb notPrefix), exec_eq_perform i s⟩

/-- An operand word given by its bytes is encoded as these, the low byte first (rule R104). -/
theorem opNN_append (op hi lo : Byte) : opNN op (hi ++ lo) = [op, lo, hi] :=
  congrArg₂ (fun low high => [op, low, high]) (loByte_joinBytes hi lo) (hiByte_joinBytes hi lo)

/-- The address that an LDH form computes, as a number (rules R152 to R155). -/
theorem pageAddr_eq_ofNat (n : Byte) : pageAddr n = BitVec.ofNat 16 (0xFF00 + n.toNat) := by
  have bound := n.isLt
  apply BitVec.eq_of_toNat_eq
  rw [pageAddr, joinBytes_toNat]
  change 256 * 255 + n.toNat = (0xFF00 + n.toNat) % 65536
  omega

/-- One up from 0xFFFF is 0 (rules R156 and R157). -/
theorem add_one_eq_ofNat (a : Word) : a + 1 = BitVec.ofNat 16 (a.toNat + 1) := by
  apply BitVec.eq_of_toNat_eq; simp

/-- One down from 0 is 0xFFFF (rules R158 and R159). -/
theorem sub_one_eq_ofNat (a : Word) : a - 1 = BitVec.ofNat 16 (a.toNat + 65535) := by
  apply BitVec.eq_of_toNat_eq; simp [BitVec.toNat_sub, Nat.add_comm]

end Sys2Proof.Machine

open Sys2Proof Sys2Proof.Machine

/-- Settles O28. Each form's bytes and operation are the rule's as they stand. -/
theorem loadsOfRegistersAndThroughHl : Obligations.LoadsOfRegistersAndThroughHl := fun _ s dst src n =>
  ⟨encodedAs_and_exec_of_form rfl (perform_ldRegReg s dst src),
    encodedAs_and_exec_of_form rfl (perform_ldRegImm s dst n),
    encodedAs_and_exec_of_form rfl (perform_ldRegAtHl s dst),
    encodedAs_and_exec_of_form rfl (perform_ldAtHlReg s src),
    encodedAs_and_exec_of_form rfl (perform_ldAtHlImm s n)⟩

/-- Settles O29. The address word has the low byte first, and the page address is `0xFF00` plus the byte. -/
theorem loadAccumulator : Obligations.LoadAccumulator := by
  intro i s n lo hi
  rw [← pageAddr_eq_ofNat, ← pageAddr_eq_ofNat]
  exact ⟨encodedAs_and_exec_of_form rfl (perform_ldAAtBc s),
    encodedAs_and_exec_of_form rfl (perform_ldAAtDe s),
    encodedAs_and_exec_of_form (opNN_append 0xFA hi lo) (perform_ldAAtNn s (hi ++ lo)),
    encodedAs_and_exec_of_form rfl (perform_ldhAAtN s n),
    encodedAs_and_exec_of_form rfl (perform_ldhAAtC s)⟩

/-- Settles O30. The address word has the low byte first, and the page address is `0xFF00` plus the byte. -/
theorem storeAccumulator : Obligations.StoreAccumulator := by
  intro i s n lo hi
  rw [← pageAddr_eq_ofNat, ← pageAddr_eq_ofNat]
  exact ⟨encodedAs_and_exec_of_form rfl (perform_ldAtBcA s),
    encodedAs_and_exec_of_form rfl (perform_ldAtDeA s),
    encodedAs_and_exec_of_form (opNN_append 0xEA hi lo) (perform_ldAtNnA s (hi ++ lo)),
    encodedAs_and_exec_of_form rfl (perform_ldhAtNA s n),
    encodedAs_and_exec_of_form rfl (perform_ldhAtCA s)⟩

/-- Settles O31. HL one higher or lower is the sum modulo 65536; reading or writing through the old HL comes first. -/
theorem loadAndStoreSteppingHl : Obligations.LoadAndStoreSteppingHl := by
  intro i s
  rw [← add_one_eq_ofNat, ← sub_one_eq_ofNat]
  exact ⟨encodedAs_and_exec_of_form rfl (perform_ldAtHlIncA s),
    encodedAs_and_exec_of_form rfl (perform_ldAAtHlInc s),
    encodedAs_and_exec_of_form rfl (perform_ldAtHlDecA s),
    encodedAs_and_exec_of_form rfl (perform_ldAAtHlDec s)⟩
end

section
/-! SUPPORT. The stack (rules R21, R27, R64 and R65): a word written is read back where both its bytes lie at addresses
that store, so the word on top after a push is the word pushed, and loading a pair with the word it holds changes
nothing. -/

namespace Sys2Proof.Machine

open Sys2Proof.Claims

/-- The low byte of a word as a narrowed number. -/
theorem loByte_eq_ofNat_toNat (v : Word) : loByte v = BitVec.ofNat 8 v.toNat := by
  apply BitVec.eq_of_toNat_eq
  rw [loByte_toNat, BitVec.toNat_ofNat]

/-- The upper byte of a pushed word lies one below the old SP. -/
theorem sub_two_add_one (sp : Word) : sp - 2 + 1 = sp - 1 := by bv_omega

/-- Addresses one apart name different storage, at both ends of the mirror and at the wrap to 0 too (rule R68). -/
theorem backing_add_one_ne (a : Word) : backing (a + 1) ≠ backing a := by
  intro same
  have keys := congrArg BitVec.toNat same
  have bound := a.isLt
  have next : (a + 1).toNat = (a.toNat + 1) % 65536 := BitVec.toNat_add a 1
  rw [backing_toNat, backing_toNat, next] at keys
  split at keys <;> split at keys <;> omega

section
variable (s : State)

/-! ### Pairs by their cells -/

@[simp] theorem State.setBc_joinBytes (hi lo : Byte) : s.setBc (joinBytes hi lo) = { s with b := hi, c := lo } := by
  simp [State.setBc]
@[simp] theorem State.setDe_joinBytes (hi lo : Byte) : s.setDe (joinBytes hi lo) = { s with d := hi, e := lo } := by
  simp [State.setDe]
@[simp] theorem State.setHl_joinBytes (hi lo : Byte) : s.setHl (joinBytes hi lo) = { s with h := hi, l := lo } := by
  simp [State.setHl]
@[simp] theorem State.setAf_joinBytes (hi lo : Byte) : s.setAf (joinBytes hi lo) = { s with a := hi, f := lo } := by
  simp [State.setAf]

/-- Loading a stack pair with the word it holds changes nothing. -/
theorem State.setStackPair_stackPair (q : StackPair) : s.setStackPair q (s.stackPair q) = s := by
  cases q with
  | bc => exact s.setBc_joinBytes s.b s.c
  | de => exact s.setDe_joinBytes s.d s.e
  | hl => exact s.setHl_joinBytes s.h s.l
  | af => exact s.setAf_joinBytes s.a s.f

/-! ### Pushed words -/

/-- A word written is read back where both its bytes are stored. -/
theorem State.busReadWord_busWriteWord {a : Word} (v : Word) (low : stores a = true) (high : stores (a + 1) = true) :
    (s.busWriteWord a v).busReadWord a = v := by
  rw [State.busReadWord, State.busWriteWord, State.busRead_busWrite_same _ _ high rfl,
    State.busRead_busWrite_other _ _ (backing_add_one_ne a).symm, State.busRead_busWrite_same _ _ low rfl,
    joinBytes_halves]

/-- The word on top after a push is the word pushed, where the stack stores it (rule R166). -/
theorem State.stackTop_pushWord (v : Word) (low : stores (s.sp - 2) = true) (high : stores (s.sp - 1) = true) :
    (s.pushWord v).stackTop = v := by
  rw [← sub_two_add_one] at high
  rw [State.stackTop, State.pushWord_sp, State.pushWord, State.busReadWord_busWriteWord _ v low high]

/-- A push changes SP, memory and the PPU only (rule R164). -/
theorem State.pushWord_frame (v : Word) :
    s.pushWord v = { s with sp := s.sp - 2, mem := (s.pushWord v).mem, ppu := (s.pushWord v).ppu } := by
  rw [pushWord_eq, State.busWrite_eq (s.busWrite _ _), State.busWrite_eq s]
  rfl

/-- A push of two cells, in the terms of the statements: the low cell at the lower address (rule R164). -/
theorem State.pushWord_joinBytes (hi lo : Byte) : s.pushWord (joinBytes hi lo) = pushed hi lo s := by
  rw [State.pushWord, State.busWriteWord, loByte_joinBytes, hiByte_joinBytes, sub_two_add_one]
  rfl

/-- A push keeps the pair it pushes. -/
theorem State.stackPair_pushWord (q : StackPair) (v : Word) : (s.pushWord v).stackPair q = s.stackPair q := by
  rw [State.pushWord_frame]
  cases q <;> rfl

/-- Popping a pair that was just pushed leaves the push's memory and PPU, and SP as it was before (rule R166). -/
theorem perform_pop_push (q : StackPair) (low : stores (s.sp - 2) = true) (high : stores (s.sp - 1) = true) :
    perform (.pop q) (perform (.push q) s) =
      { s with m := 3, mem := (perform (.push q) s).mem, ppu := (perform (.push q) s).ppu } := by
  have top : (perform (.push q) s).stackTop = (perform (.push q) s).stackPair q :=
    (s.stackTop_pushWord _ low high).trans (s.stackPair_pushWord q _).symm
  have spBack : s.sp - 2 + 2 = s.sp := BitVec.sub_add_cancel s.sp 2
  rw [perform_pop, top, State.setStackPair_stackPair, perform_push, State.took_sp, State.pushWord_sp, spBack,
    State.pushWord_frame]
  rfl

end

end Sys2Proof.Machine

open Sys2Proof Sys2Proof.Machine

/-- Settles O32. The operand word has the low byte first, and SP is stored by its halves. -/
theorem loadPair : Obligations.LoadPair := by
  intro i s rp lo hi
  rw [← loByte_eq_ofNat_toNat, ← hiByte_eq_ofNat]
  exact ⟨encodedAs_and_exec_of_form (opNN_append _ hi lo) (perform_ldPairImm s rp (hi ++ lo)),
    encodedAs_and_exec_of_form (opNN_append 0x08 hi lo) (perform_ldAtNnSp s (hi ++ lo)),
    encodedAs_and_exec_of_form rfl (perform_ldSpHl s)⟩

/-- Settles O34, pair by pair. A pair is its two cells, and so is the word on top of the stack. -/
theorem pushAndPop : Obligations.PushAndPop := by
  intro i s q
  have top : s.stackTop = joinBytes (s.busRead (s.sp + 1)) (s.busRead s.sp) := rfl
  refine ⟨encodedAs_and_exec_of_form rfl ?_, encodedAs_and_exec_of_form rfl ?_⟩
  · cases q <;> exact congrArg (State.took · 4) (s.pushWord_joinBytes _ _)
  · rw [perform_pop, top]
    cases q <;> simp [State.setStackPair, State.setSp, State.took]

/-- Settles O35. The word on top after the push is the pair itself, and SP goes back up by the 2 it came down. -/
theorem popUndoesPush : Obligations.PopUndoesPush := by
  intro i j s q isPush isPop low high
  refine ⟨_, _, exec_eq_perform i s, exec_eq_perform j _, ?_⟩
  rw [isPush, isPop]
  exact perform_pop_push s q low high
end

section
/-! SUPPORT. The accumulator operations in numbers (rules R170 to R183): what each helper answers, F written as a number,
and one rule for the three operand forms of rule R175. -/

namespace Sys2Proof.Machine

open Sys2Proof.Claims

/-- An instruction of a form has the encoding of the form, here given as the bytes that a statement writes out.
`PREFIX CB` alone has no encoding. -/
theorem encodedAs_of_form {i : Instr} {form : Form} {bytes : List Byte} (encoding : form.encode = bytes)
    (notPrefix : ∀ op2, form ≠ .prefixCb op2 := by nofun) (isForm : i.form = form) : encodedAs i bytes := by
  subst isForm encoding
  exact fun rest => decode_encode i rest (wellFormed_of_form_ne_prefixCb notPrefix)

/-! ### Flags and results as numbers -/

/-- The packed F is the F that the statements write as a number (rules R23 and R24). -/
theorem packFlags_eq_flagsByte (z n h c : Bool) (old : Byte) : packFlags z n h c old = flagsByte z n h c old := by
  rw [flagsByte, ← packFlags_toNat, BitVec.ofNat_toNat, BitVec.setWidth_eq]

theorem carryIn_eq_toNat (c : Bool) : carryIn c = c.toNat := by cases c <;> rfl

/-- The zero test on a byte is the zero test on its number. -/
theorem beq_zero_eq_decide (v : Byte) : (v == 0) = decide (v.toNat = 0) := by
  rw [Bool.beq_eq_decide_eq]
  exact decide_eq_decide.mpr BitVec.toNat_inj.symm

/-- The zero test on a narrowed number. -/
theorem ofNat_beq_zero (n : Nat) : (BitVec.ofNat 8 n == 0) = decide (n % 256 = 0) := by
  rw [beq_zero_eq_decide, BitVec.toNat_ofNat]

/-- A helper's answer whose result is a narrowed number. -/
theorem aluOut_ofNat (total : Nat) (n h c : Bool) :
    aluOut (BitVec.ofNat 8 total) n h c = ⟨BitVec.ofNat 8 total, decide (total % 256 = 0), n, h, c⟩ := by
  rw [aluOut, ofNat_beq_zero]

/-! ### The helpers -/

section
variable (a b : Byte) (cin : Bool)

/-- `ADC8` in numbers (rule R171). -/
theorem adc8_eq :
    adc8 a b cin = ⟨BitVec.ofNat 8 (a.toNat + b.toNat + cin.toNat), decide ((a.toNat + b.toNat + cin.toNat) % 256 = 0),
      false, decide (a.toNat % 16 + b.toNat % 16 + cin.toNat > 0xF), decide (a.toNat + b.toNat + cin.toNat > 0xFF)⟩ := by
  rw [adc8, aluOut_ofNat, carryIn_eq_toNat]

/-- `ADD8` is `ADC8` without a carry coming in (rules R170 and R171). -/
theorem add8_eq_adc8 : add8 a b = adc8 a b false := rfl

/-- The difference with borrow as a number that cannot go below 0. -/
theorem ofInt_sub_carryIn :
    BitVec.ofInt 8 ((a.toNat : Int) - b.toNat - carryIn cin) = BitVec.ofNat 8 (a.toNat + 512 - b.toNat - cin.toNat) := by
  have boundB := b.isLt
  have boundCin := cin.toNat_le
  apply BitVec.eq_of_toNat_eq
  rw [carryIn_eq_toNat, BitVec.toNat_ofInt, BitVec.toNat_ofNat]
  omega

/-- `SBC8` in numbers (rule R173). -/
theorem sbc8_eq :
    sbc8 a b cin = ⟨BitVec.ofNat 8 (a.toNat + 512 - b.toNat - cin.toNat),
      decide ((a.toNat + 512 - b.toNat - cin.toNat) % 256 = 0), true,
      decide (a.toNat % 16 < b.toNat % 16 + cin.toNat), decide (a.toNat < b.toNat + cin.toNat)⟩ := by
  rw [sbc8, ofInt_sub_carryIn, aluOut_ofNat, carryIn_eq_toNat]

/-- `SUB8` is `SBC8` without a borrow coming in (rules R172 and R173). -/
theorem sub8_eq_sbc8 : sub8 a b = sbc8 a b false := by simp [sub8, sbc8, carryIn]

/-- `SUB8` in numbers (rule R172): the difference is 0 for equal operands only. -/
theorem sub8_eq :
    sub8 a b = ⟨BitVec.ofNat 8 (a.toNat + 256 - b.toNat), decide (a.toNat = b.toNat), true,
      decide (a.toNat % 16 < b.toNat % 16), decide (a.toNat < b.toNat)⟩ := by
  have boundA := a.isLt
  have boundB := b.isLt
  have narrowed : BitVec.ofNat 8 (a.toNat + 512 - b.toNat - 0) = BitVec.ofNat 8 (a.toNat + 256 - b.toNat) := by
    apply BitVec.eq_of_toNat_eq
    rw [BitVec.toNat_ofNat, BitVec.toNat_ofNat]
    omega
  have zero : (a.toNat + 512 - b.toNat - 0) % 256 = 0 ↔ a.toNat = b.toNat := by omega
  rw [sub8_eq_sbc8, sbc8_eq, Bool.toNat_false, narrowed, decide_eq_decide.mpr zero]
  rfl

end

/-! ### The three operand forms (rule R175) -/

section
variable {i : Instr} {s : State} {op : AluOp} {v : Byte} {k : Nat}

/-- An accumulator instruction does its operation on its operand value, in the cost of its form. -/
theorem exec_of_aluOperand (operand : aluOperand i.form s = some (op, v, k)) :
    exec i s = .next ((aluWith op v s).took k) := by
  rw [exec_eq_perform]
  unfold aluOperand at operand
  split at operand
  · next isForm => cases operand; rw [isForm]; rfl
  · next isForm => cases operand; rw [isForm]; rfl
  · next isForm => cases operand; rw [isForm]; rfl
  all_goals exact absurd operand nofun

/-- An accumulator operation other than CP writes its helper's result and flags and the cost, and nothing else. -/
theorem exec_writing_a {r : Byte} {z n h c : Bool} (writes : op ≠ .cp)
    (answer : alu op s.a v s.flagC = ⟨r, z, n, h, c⟩) (operand : aluOperand i.form s = some (op, v, k)) :
    exec i s = .next { s with a := r, f := flagsByte z n h c s.f, m := k } := by
  rw [exec_of_aluOperand operand, aluWith_eq, answer, if_neg writes, ← packFlags_eq_flagsByte]
  rfl

/-- CP writes its helper's flags and the cost, and nothing else (rule R183). -/
theorem exec_cp {r : Byte} {z n h c : Bool} (answer : sub8 s.a v = ⟨r, z, n, h, c⟩)
    (operand : aluOperand i.form s = some (.cp, v, k)) :
    exec i s = .next { s with f := flagsByte z n h c s.f, m := k } := by
  rw [exec_of_aluOperand operand, ← packFlags_eq_flagsByte, aluWith]
  simp only [alu, answer]
  rfl

/-- A bitwise operation answers a byte that is pinned bit by bit, with ZERO its zero test. -/
theorem exec_bitwise {r : Byte} {h : Bool} {bit : Nat → Bool} (writes : op ≠ .cp)
    (answer : alu op s.a v s.flagC = aluOut r false h false) (bits : ∀ b, b < 8 → r.getLsbD b = bit b)
    (operand : aluOperand i.form s = some (op, v, k)) :
    ∃ r : Byte, (∀ b, b < 8 → r.getLsbD b = bit b) ∧
      exec i s = .next { s with a := r, f := flagsByte (decide (r.toNat = 0)) false h false s.f, m := k } := by
  rw [aluOut, beq_zero_eq_decide] at answer
  exact ⟨r, bits, exec_writing_a writes answer operand⟩

end

end Sys2Proof.Machine

open Sys2Proof Sys2Proof.Machine

/-- Settles O36. Each form's bytes are the rule's as they stand. -/
theorem accumulatorOperandsAreEncoded : Obligations.AccumulatorOperandsAreEncoded := fun _ _ _ _ =>
  ⟨encodedAs_of_form rfl, encodedAs_of_form rfl, encodedAs_of_form rfl⟩

/-- Settles O37. ADD is ADC with no carry coming in. -/
theorem addAndAddWithCarry : Obligations.AddAndAddWithCarry := fun _ s v _ =>
  ⟨exec_writing_a (by decide) ((add8_eq_adc8 s.a v).trans (adc8_eq s.a v false)),
    exec_writing_a (by decide) (adc8_eq s.a v s.flagC)⟩

/-- Settles O38. CP is SUB with the result dropped. -/
theorem subtractAndCompare : Obligations.SubtractAndCompare := fun _ s v _ =>
  ⟨exec_writing_a (by decide) (sub8_eq s.a v), exec_cp (sub8_eq s.a v),
    exec_writing_a (by decide) (sbc8_eq s.a v s.flagC)⟩

/-- Settles O39. The bits of the machine's and, exclusive or, and or are those of the operands. -/
theorem bitwiseLogic : Obligations.BitwiseLogic := fun _ _ _ _ =>
  ⟨exec_bitwise (by decide) rfl fun _ _ => BitVec.getLsbD_and,
    exec_bitwise (by decide) rfl fun _ _ => BitVec.getLsbD_xor,
    exec_bitwise (by decide) rfl fun _ _ => BitVec.getLsbD_or⟩
end

section
/-! SUPPORT. INC, DEC, CPL and the carry instructions (rules R184 to R187 and R189 to R191), with flags that keep CARRY. -/

namespace Sys2Proof.Machine

open Sys2Proof.Claims

/-! ### Results and flags of INC and DEC in numbers -/

/-- `ADD8(v, 1)` in the flags that INC writes (rule R184). -/
theorem add8_one (v : Byte) :
    (add8 v 1).res = BitVec.ofNat 8 (v.toNat + 1) ∧ (add8 v 1).z = decide (v.toNat = 0xFF) ∧
    (add8 v 1).h = decide (v.toNat % 16 = 0xF) := by
  have bound := v.isLt
  have zero : (v.toNat + 1) % 256 = 0 ↔ v.toNat = 0xFF := by omega
  have half : v.toNat % 16 + 1 > 0xF ↔ v.toNat % 16 = 0xF := by omega
  rw [add8_eq_adc8, adc8_eq]
  exact ⟨rfl, decide_eq_decide.mpr zero, decide_eq_decide.mpr half⟩

/-- `SUB8(v, 1)` in the flags that DEC writes (rule R186). -/
theorem sub8_one (v : Byte) :
    (sub8 v 1).res = BitVec.ofNat 8 (v.toNat + 255) ∧ (sub8 v 1).z = decide (v.toNat = 1) ∧
    (sub8 v 1).h = decide (v.toNat % 16 = 0) := by
  have half : v.toNat % 16 < 1 ↔ v.toNat % 16 = 0 := by omega
  rw [sub8_eq]
  exact ⟨rfl, rfl, decide_eq_decide.mpr half⟩

/-- The complement as a number (rule R189). -/
theorem not_eq_ofNat (v : Byte) : ~~~v = BitVec.ofNat 8 (255 - v.toNat) := by
  apply BitVec.eq_of_toNat_eq
  rw [BitVec.toNat_not, BitVec.toNat_ofNat]
  omega

section
variable (s : State) (z n h c : Bool)

theorem setFlags_eq_flagsByte : s.setFlags z n h c = { s with f := flagsByte z n h c s.f } := by
  rw [State.setFlags, packFlags_eq_flagsByte]

/-- Flags written before a register is loaded, which leaves F alone. -/
theorem setReg8_setFlags (r : Reg8) (v : Byte) :
    (s.setFlags z n h c).setReg8 r v = { s.setReg8 r v with f := flagsByte z n h c s.f } := by
  rw [setFlags_eq_flagsByte]
  cases r <;> rfl

/-- Flags written after a byte is stored, which leaves F alone. -/
theorem setFlags_busWrite (addr : Word) (v : Byte) :
    (s.busWrite addr v).setFlags z n h c = { s.busWrite addr v with f := flagsByte z n h c s.f } := by
  rw [setFlags_eq_flagsByte, State.busWrite_f]

end

section
variable (s : State) (r : Reg8)

/-- `INC r` in numbers (rule R184). -/
theorem perform_incReg_eq :
    perform (.incReg r) s = { s.setReg8 r (BitVec.ofNat 8 ((s.reg8 r).toNat + 1)) with
      f := flagsByte (decide ((s.reg8 r).toNat = 0xFF)) false (decide ((s.reg8 r).toNat % 16 = 0xF)) s.flagC s.f
      m := 1 } := by
  obtain ⟨res, zero, half⟩ := add8_one (s.reg8 r)
  rw [perform_incReg, setReg8_setFlags, res, zero, half]
  rfl

/-- `INC (HL)` in numbers (rule R185). -/
theorem perform_incAtHl_eq :
    perform .incAtHl s = { s.busWrite s.hl (BitVec.ofNat 8 ((s.busRead s.hl).toNat + 1)) with
      f := flagsByte (decide ((s.busRead s.hl).toNat = 0xFF)) false (decide ((s.busRead s.hl).toNat % 16 = 0xF))
        s.flagC s.f
      m := 3 } := by
  obtain ⟨res, zero, half⟩ := add8_one (s.busRead s.hl)
  rw [perform_incAtHl, setFlags_busWrite, res, zero, half]
  rfl

/-- `DEC r` in numbers (rule R186). -/
theorem perform_decReg_eq :
    perform (.decReg r) s = { s.setReg8 r (BitVec.ofNat 8 ((s.reg8 r).toNat + 255)) with
      f := flagsByte (decide ((s.reg8 r).toNat = 1)) true (decide ((s.reg8 r).toNat % 16 = 0)) s.flagC s.f
      m := 1 } := by
  obtain ⟨res, zero, half⟩ := sub8_one (s.reg8 r)
  rw [perform_decReg, setReg8_setFlags, res, zero, half]
  rfl

/-- `DEC (HL)` in numbers (rule R187). -/
theorem perform_decAtHl_eq :
    perform .decAtHl s = { s.busWrite s.hl (BitVec.ofNat 8 ((s.busRead s.hl).toNat + 255)) with
      f := flagsByte (decide ((s.busRead s.hl).toNat = 1)) true (decide ((s.busRead s.hl).toNat % 16 = 0)) s.flagC s.f
      m := 3 } := by
  obtain ⟨res, zero, half⟩ := sub8_one (s.busRead s.hl)
  rw [perform_decAtHl, setFlags_busWrite, res, zero, half]
  rfl

end

end Sys2Proof.Machine

open Sys2Proof Sys2Proof.Machine

/-- Settles O40. A carry out of the low nibble leaves it at 0, and a borrow into it leaves it at 15. -/
theorem incrementAndDecrement : Obligations.IncrementAndDecrement := fun _ s r =>
  ⟨encodedAs_and_exec_of_form rfl (perform_incReg_eq s r), encodedAs_and_exec_of_form rfl (perform_incAtHl_eq s),
    encodedAs_and_exec_of_form rfl (perform_decReg_eq s r), encodedAs_and_exec_of_form rfl (perform_decAtHl_eq s)⟩

/-- Settles O43. The complement of a byte is 255 less the byte. -/
theorem complementAndCarry : Obligations.ComplementAndCarry := by
  intro i s
  rw [← not_eq_ofNat]
  exact ⟨encodedAs_and_exec_of_form rfl (by rw [perform_cpl, setFlags_eq_flagsByte]; rfl),
    encodedAs_and_exec_of_form rfl (by rw [perform_scf, setFlags_eq_flagsByte]; rfl),
    encodedAs_and_exec_of_form rfl (by rw [perform_ccf, setFlags_eq_flagsByte]; rfl)⟩
end

section
/-! SUPPORT. DAA in numbers (rule R188), and what it is for: the corrected byte holds the decimal digits of the sum or the
difference. -/

namespace Sys2Proof.Machine

open Sys2Proof.Claims

/-! ### Flags under writes of A and of the cost -/

section
variable (s : State)

@[simp] theorem State.flagN_setA (v : Byte) : (s.setA v).flagN = s.flagN := rfl
@[simp] theorem State.flagH_setA (v : Byte) : (s.setA v).flagH = s.flagH := rfl
@[simp] theorem State.flagC_setA (v : Byte) : (s.setA v).flagC = s.flagC := rfl
@[simp] theorem State.flagN_took (k : Nat) : (s.took k).flagN = s.flagN := rfl
@[simp] theorem State.flagH_took (k : Nat) : (s.took k).flagH = s.flagH := rfl
@[simp] theorem State.flagC_took (k : Nat) : (s.took k).flagC = s.flagC := rfl

end

/-! ### DAA in numbers -/

/-- The correction after an addition. -/
theorem daa_of_addition (a : Byte) (h c : Bool) :
    daa a false h c = ⟨BitVec.ofNat 8 (daaSum a.toNat h c), c || decide (daaSum a.toNat h c > 0xFF)⟩ := rfl

/-- The correction after a subtraction: taking 0x06 away is adding 250, and taking 0x60 away is adding 160. -/
theorem daa_of_subtraction (a : Byte) (h c : Bool) :
    daa a true h c = ⟨BitVec.ofNat 8 (daaDifference a.toNat h c), c⟩ := by
  change DaaOut.mk _ c = _
  congr 1
  apply BitVec.eq_of_toNat_eq
  rw [daaDifference, BitVec.toNat_ofNat]
  cases h <;> cases c <;> simp [BitVec.toNat_sub] <;> omega

/-- What DAA does: A and CARRY by rule R188, Z the zero test, N kept and Hf cleared. -/
theorem perform_daa_eq {s : State} {r : Byte} {c : Bool} (answer : daa s.a s.flagN s.flagH s.flagC = ⟨r, c⟩) :
    perform .daa s = { s with a := r, f := flagsByte (decide (r.toNat = 0)) s.flagN false c s.f, m := 1 } := by
  rw [perform_daa, answer, setFlags_eq_flagsByte, beq_zero_eq_decide]
  rfl

/-! ### Decimal digits -/

/-- A byte made of the last two decimal digits of a number is a decimal byte and stands for the number modulo 100. -/
theorem bcd_of_toNat {v : Byte} {n : Nat} (digits : v.toNat = 16 * (n / 10 % 10) + n % 10) :
    isBcd v = true ∧ bcdValue v = n % 100 := by
  have tens : v.toNat / 16 = n / 10 % 10 := by omega
  have ones : v.toNat % 16 = n % 10 := by omega
  rw [isBcd, bcdValue, tens, ones, Bool.and_eq_true, decide_eq_true_iff, decide_eq_true_iff]
  omega

theorem digits_of_isBcd {v : Byte} (bcd : isBcd v = true) : v.toNat % 16 ≤ 9 ∧ v.toNat / 16 ≤ 9 := by
  rwa [isBcd, Bool.and_eq_true, decide_eq_true_iff, decide_eq_true_iff] at bcd

/-- The sum of two decimal bytes and a carry, corrected: the two decimal digits of the sum of the numbers they stand
for, with an overflow exactly where that sum has a third digit. The two splits are the two corrections. -/
theorem daaSum_of_digits {a b c : Nat} (onesA : a % 16 ≤ 9) (tensA : a / 16 ≤ 9) (onesB : b % 16 ≤ 9)
    (tensB : b / 16 ≤ 9) (carry : c ≤ 1) :
    let n := 10 * (a / 16) + a % 16 + (10 * (b / 16) + b % 16) + c
    let sum := daaSum ((a + b + c) % 256) (decide (a % 16 + b % 16 + c > 0xF)) (decide (a + b + c > 0xFF))
    sum % 256 = 16 * (n / 10 % 10) + n % 10 ∧ (a + b + c > 0xFF ∨ sum > 0xFF ↔ n ≥ 100) := by
  simp only [daaSum, decide_eq_true_eq]
  split <;> split <;> omega

/-- The difference of two decimal bytes with a borrow, corrected: the two decimal digits of the difference of the numbers
they stand for, modulo 100. The two splits are the two corrections. -/
theorem daaDifference_of_digits {a b c : Nat} (onesA : a % 16 ≤ 9) (tensA : a / 16 ≤ 9) (onesB : b % 16 ≤ 9)
    (tensB : b / 16 ≤ 9) (borrow : c ≤ 1) :
    let n := 10 * (a / 16) + a % 16 + 200 - (10 * (b / 16) + b % 16) - c
    let difference :=
      daaDifference ((a + 512 - b - c) % 256) (decide (a % 16 < b % 16 + c)) (decide (a < b + c))
    difference = 16 * (n / 10 % 10) + n % 10 ∧
      (a < b + c ↔ 10 * (a / 16) + a % 16 < 10 * (b / 16) + b % 16 + c) := by
  simp only [daaDifference, decide_eq_true_eq]
  split <;> split <;> omega

/-- DAA corrects a helper's answer to a decimal byte that stands for `value`, and leaves `carry` in CARRY. -/
def AluOut.CorrectsTo (out : AluOut) (value : Nat) (carry : Bool) : Prop :=
  let adjusted := daa out.res out.n out.h out.c
  isBcd adjusted.res = true ∧ bcdValue adjusted.res = value ∧ adjusted.c = carry

section
variable {a b : Byte} (cin : Bool) (bcdA : isBcd a = true) (bcdB : isBcd b = true)
include bcdA bcdB

/-- The sum of two decimal bytes is corrected to the decimal sum and the decimal carry. -/
theorem adc8_correctsTo :
    (adc8 a b cin).CorrectsTo ((bcdValue a + bcdValue b + cin.toNat) % 100)
      (decide (bcdValue a + bcdValue b + cin.toNat ≥ 100)) := by
  obtain ⟨onesA, tensA⟩ := digits_of_isBcd bcdA
  obtain ⟨onesB, tensB⟩ := digits_of_isBcd bcdB
  obtain ⟨digits, overflow⟩ := daaSum_of_digits onesA tensA onesB tensB cin.toNat_le
  obtain ⟨bcd, value⟩ := bcd_of_toNat ((BitVec.toNat_ofNat _ _).trans digits)
  rw [AluOut.CorrectsTo, adc8_eq, daa_of_addition, BitVec.toNat_ofNat]
  exact ⟨bcd, value, (Bool.decide_or _ _).symm.trans (decide_eq_decide.mpr overflow)⟩

/-- The difference of two decimal bytes is corrected to the decimal difference and the decimal borrow. -/
theorem sbc8_correctsTo :
    (sbc8 a b cin).CorrectsTo ((bcdValue a + 200 - bcdValue b - cin.toNat) % 100)
      (decide (bcdValue a < bcdValue b + cin.toNat)) := by
  obtain ⟨onesA, tensA⟩ := digits_of_isBcd bcdA
  obtain ⟨onesB, tensB⟩ := digits_of_isBcd bcdB
  obtain ⟨digits, underflow⟩ := daaDifference_of_digits onesA tensA onesB tensB cin.toNat_le
  obtain ⟨bcd, value⟩ := bcd_of_toNat ((BitVec.toNat_ofNat _ _).trans ((Nat.mod_mod _ _).trans digits))
  rw [AluOut.CorrectsTo, sbc8_eq, daa_of_subtraction, BitVec.toNat_ofNat]
  exact ⟨bcd, value, decide_eq_decide.mpr underflow⟩

end

/-! ### The operation and then DAA -/

/-- DAA after an accumulator operation corrects the helper's answer, which the operation left in A and F. -/
theorem exec_alu_then_daa {i j : Instr} {s : State} {op : AluOp} {v : Byte} {k value : Nat} {carry : Bool}
    (operand : aluOperand i.form s = some (op, v, k)) (isDaa : j.form = .daa) (writes : op ≠ .cp)
    (corrected : (alu op s.a v s.flagC).CorrectsTo value carry) :
    ∃ t u, exec i s = .next t ∧ exec j t = .next u ∧ isBcd u.a = true ∧ bcdValue u.a = value ∧
      u.f.getLsbD 4 = carry := by
  refine ⟨_, _, exec_of_aluOperand operand, exec_eq_perform j _, ?_⟩
  change _ ∧ _ ∧ State.flagC _ = carry
  rw [isDaa, perform_daa, aluWith_eq, if_neg writes]
  simpa [AluOut.CorrectsTo] using corrected

end Sys2Proof.Machine

open Sys2Proof Sys2Proof.Machine

/-- Settles O41. N chooses the correction; either is made on numbers and narrowed at the end. -/
theorem decimalAdjust : Obligations.DecimalAdjust := by
  intro i s isDaa h c sum difference
  refine ⟨encodedAs_of_form rfl (isForm := isDaa), ?_⟩
  rw [exec_eq_perform, isDaa]
  split
  · next subtracted =>
    have n : s.flagN = true := subtracted
    have answer : daa s.a s.flagN s.flagH s.flagC = ⟨BitVec.ofNat 8 difference, c⟩ := by
      rw [n]
      exact daa_of_subtraction s.a h c
    have narrow : difference % 256 = difference := Nat.mod_mod _ _
    rw [perform_daa_eq answer, n, BitVec.toNat_ofNat, narrow]
  · next added =>
    have n : s.flagN = false := Bool.eq_false_of_not_eq_true added
    have answer : daa s.a s.flagN s.flagH s.flagC = ⟨BitVec.ofNat 8 sum, c || decide (sum > 0xFF)⟩ := by
      rw [n]
      exact daa_of_addition s.a h c
    rw [perform_daa_eq answer, n, BitVec.toNat_ofNat]

/-- Settles O42. ADD and SUB are ADC and SBC with no carry coming in. -/
theorem decimalArithmeticIsCorrect : Obligations.DecimalArithmeticIsCorrect := by
  intro i j s v k op operand isDaa bcdA bcdV x y cin
  constructor
  · rintro (rfl | rfl)
    · exact exec_alu_then_daa operand isDaa (by decide) (adc8_correctsTo false bcdA bcdV)
    · exact exec_alu_then_daa operand isDaa (by decide) (adc8_correctsTo s.flagC bcdA bcdV)
  · rintro (rfl | rfl)
    · have corrected := sbc8_correctsTo false bcdA bcdV
      rw [← sub8_eq_sbc8] at corrected
      exact exec_alu_then_daa operand isDaa (by decide) corrected
    · exact exec_alu_then_daa operand isDaa (by decide) (sbc8_correctsTo s.flagC bcdA bcdV)
end

section
/-! SUPPORT. 16-bit arithmetic in numbers (rules R163 and R200 to R204): what each sum answers, and what each form writes. -/

namespace Sys2Proof.Machine

open Sys2Proof.Claims

/-! ### The sums -/

/-- The sum of `ADD HL,rp` in numbers (rule R200). -/
theorem addHl16_eq (hl v : Word) :
    addHl16 hl v = ⟨BitVec.ofNat 16 (hl.toNat + v.toNat), decide (hl.toNat % 4096 + v.toNat % 4096 > 0x0FFF),
      decide (hl.toNat + v.toNat > 0xFFFF)⟩ := by
  rw [addHl16, BitVec.add_def]

/-- The displacement added as a signed number, modulo 65536. -/
theorem ofInt_add_toInt (sp : Word) (d : Byte) : BitVec.ofInt 16 (sp.toNat + d.toInt) = sp + signExtend16 d := by
  rw [BitVec.ofInt_add, BitVec.ofInt_natCast, BitVec.ofNat_toNat, BitVec.setWidth_eq, signExtend16, BitVec.signExtend]

/-- `SPADD` in numbers: the signed sum, with the carries of the unsigned one (rule R204). -/
theorem spAdd_eq (sp : Word) (d : Byte) :
    spAdd sp d = ⟨BitVec.ofInt 16 (sp.toNat + d.toInt), decide (sp.toNat % 16 + d.toNat % 16 > 0x0F),
      decide (sp.toNat % 256 + d.toNat > 0xFF)⟩ := by
  rw [spAdd, ofInt_add_toInt]

/-! ### The forms -/

section
variable (s : State)

/-- `ADD SP,d` in numbers (rule R203). -/
theorem perform_addSpDisp_eq (d : Byte) :
    perform (.addSpDisp d) s = { s with
      sp := BitVec.ofInt 16 (s.sp.toNat + d.toInt)
      f := flagsByte false false (decide (s.sp.toNat % 16 + d.toNat % 16 > 0x0F))
        (decide (s.sp.toNat % 256 + d.toNat > 0xFF)) s.f
      m := 4 } := by
  rw [perform_addSpDisp, setFlags_eq_flagsByte, spAdd_eq]
  rfl

/-- `LD HL,SP+d` in numbers (rule R163). -/
theorem perform_ldHlSpDisp_eq (d : Byte) :
    perform (.ldHlSpDisp d) s = { s.setHl (BitVec.ofInt 16 (s.sp.toNat + d.toInt)) with
      f := flagsByte false false (decide (s.sp.toNat % 16 + d.toNat % 16 > 0x0F))
        (decide (s.sp.toNat % 256 + d.toNat > 0xFF)) s.f
      m := 3 } := by
  rw [perform_ldHlSpDisp, setFlags_eq_flagsByte, spAdd_eq]
  rfl

variable (rp : Pair)

/-- `ADD HL,rp` in numbers (rule R200). -/
theorem perform_addHl_eq :
    perform (.addHl rp) s = { s.setHl (BitVec.ofNat 16 (s.hl.toNat + (s.pair rp).toNat)) with
      f := flagsByte s.flagZ false (decide (s.hl.toNat % 4096 + (s.pair rp).toNat % 4096 > 0x0FFF))
        (decide (s.hl.toNat + (s.pair rp).toNat > 0xFFFF)) s.f
      m := 2 } := by
  rw [perform_addHl, setFlags_eq_flagsByte, addHl16_eq]
  rfl

/-- `INC rp` in numbers (rule R201). -/
theorem perform_incPair_eq :
    perform (.incPair rp) s = { s.setPair rp (BitVec.ofNat 16 ((s.pair rp).toNat + 1)) with m := 2 } := by
  rw [perform_incPair, add_one_eq_ofNat, State.took]

/-- `DEC rp` in numbers: taking 1 away is adding 65535 (rule R202). -/
theorem perform_decPair_eq :
    perform (.decPair rp) s = { s.setPair rp (BitVec.ofNat 16 ((s.pair rp).toNat + 65535)) with m := 2 } := by
  rw [perform_decPair, sub_one_eq_ofNat, State.took]

end

end Sys2Proof.Machine

open Sys2Proof Sys2Proof.Machine

/-- Settles O33. Both forms write the one sum `SPADD` and its carries. -/
theorem addDisplacementToSp : Obligations.AddDisplacementToSp := fun _ s d =>
  ⟨encodedAs_and_exec_of_form rfl (perform_addSpDisp_eq s d), encodedAs_and_exec_of_form rfl (perform_ldHlSpDisp_eq s d)⟩

/-- Settles O44, form by form. -/
theorem pairArithmetic : Obligations.PairArithmetic := fun _ s rp =>
  ⟨encodedAs_and_exec_of_form rfl (perform_addHl_eq s rp), encodedAs_and_exec_of_form rfl (perform_incPair_eq s rp),
    encodedAs_and_exec_of_form rfl (perform_decPair_eq s rp)⟩
end

section
/-! SUPPORT. Rotates, shifts and bits in numbers (rules R210 to R225): a byte joined from slices as a number, what each
rotate answers, and what each form writes. -/

namespace Sys2Proof.Machine

open Sys2Proof.Claims

/-! ### Joined fields and slices as numbers -/

/-- The number of a join: the high part scaled by the width of the low part. -/
theorem toNat_append_eq_add {m n : Nat} (x : BitVec m) (y : BitVec n) : (x ++ y).toNat = 2 ^ n * x.toNat + y.toNat := by
  rw [BitVec.toNat_append, ← Nat.shiftLeft_add_eq_or_of_lt y.isLt, Nat.shiftLeft_eq, Nat.mul_comm]

/-- The number of a slice. -/
theorem toNat_extractLsb'_eq_mod (v : Byte) (start len : Nat) :
    (v.extractLsb' start len).toNat = v.toNat / 2 ^ start % 2 ^ len := by
  rw [BitVec.extractLsb'_toNat, Nat.shiftRight_eq_div_pow]

/-- An opcode byte whose middle field is a bit number, as a number (rule R102). -/
theorem xyz_field3_eq_ofNat (x : BitVec 2) (b : Fin 8) (z : BitVec 3) :
    xyz x (field3 b) z = BitVec.ofNat 8 (64 * x.toNat + 8 * b.val + z.toNat) := by
  have field : (field3 b).toNat = b.val := Nat.mod_eq_of_lt b.isLt
  have boundX := x.isLt
  have boundZ := z.isLt
  apply BitVec.eq_of_toNat_eq
  rw [xyz, toNat_append_eq_add, toNat_append_eq_add, field, BitVec.toNat_ofNat]
  omega

/-! ### The rotates and shifts -/

/-- Bit 7 of a byte. -/
theorem getLsbD_seven (v : Byte) : v.getLsbD 7 = decide (128 ≤ v.toNat) := BitVec.msb_eq_decide v

/-- Bit 0 of a byte. -/
theorem getLsbD_zero (v : Byte) : v.getLsbD 0 = decide (v.toNat % 2 = 1) := Nat.testBit_zero v.toNat

section
variable (op : RotOp) (v : Byte) (cin : Bool)

/-- The slices that each rotate joins, in numbers (rules R215 to R222). -/
theorem toNat_res_rotate : (rotate op v cin).res.toNat = rotated op v.toNat cin.toNat := by
  have bound := v.isLt
  have topBit : v.toNat / 128 % 2 = v.toNat / 128 := by omega
  have carry := cin.toNat_le
  cases op <;>
    simp only [rotate, rlc8, rrc8, rl8, rr8, sla8, sra8, swap8, srl8, toNat_append_eq_add, toNat_extractLsb'_eq_mod,
      Nat.reducePow, Nat.div_one, BitVec.toNat_ofBool, BitVec.toNat_ofNat, rotated] <;>
    omega

/-- A turn to the left moves bit 7 out, a turn to the right bit 0, and SWAP none. -/
theorem c_rotate : (rotate op v cin).c = shiftedOut op v.toNat := by
  cases op with
  | rlc | rl | sla => exact getLsbD_seven v
  | rrc | rr | sra | srl => exact getLsbD_zero v
  | swap => rfl

/-- What a rotate or shift answers, in numbers (rules R215 to R222). -/
theorem rotate_eq : rotate op v cin = ⟨BitVec.ofNat 8 (rotated op v.toNat cin.toNat), shiftedOut op v.toNat⟩ := by
  rw [← toNat_res_rotate, ← c_rotate, BitVec.ofNat_toNat, BitVec.setWidth_eq]

end

/-! ### The forms -/

section
variable (s : State)

/-- An accumulator rotate clears Z whatever the result (rules R210 to R213). -/
theorem rotateA_rotate (op : RotOp) :
    rotateA (rotate op s.a s.flagC) s = { s with
      a := BitVec.ofNat 8 (rotated op s.a.toNat s.flagC.toNat)
      f := flagsByte false false false (shiftedOut op s.a.toNat) s.f
      m := 1 } := by
  rw [rotateA, setFlags_eq_flagsByte, rotate_eq]
  rfl

variable (o : Operand8)

/-- A prefixed rotate or shift in numbers (rules R214 to R222). -/
theorem perform_rot_eq (op : RotOp) :
    let res := rotated op (s.operand8 o).toNat s.flagC.toNat
    perform (.rot op o) s = { s.setOperand8 o (BitVec.ofNat 8 res) with
      f := flagsByte (decide (res = 0)) false false (shiftedOut op (s.operand8 o).toNat) s.f
      m := modifyCost o } := by
  rw [perform_rot, setFlags_eq_flagsByte, State.setOperand8_f, beq_zero_eq_decide, toNat_res_rotate, rotate_eq]
  rfl

variable (b : Fin 8)

/-- `BIT b,s` writes F and the cost only (rule R223). -/
theorem perform_bitTest_eq :
    perform (.bitTest b o) s = { s with
      f := flagsByte (!(s.operand8 o).getLsbD b) false true s.flagC s.f
      m := testCost o } := by
  rw [perform_bitTest, setFlags_eq_flagsByte]
  rfl

end

/-- `RES` clears one bit alone (rule R224). -/
theorem getLsbD_and_not_twoPow (v : Byte) (b : Nat) {k : Nat} (inside : k < 8) :
    (v &&& ~~~BitVec.twoPow 8 b).getLsbD k = (v.getLsbD k && decide (k ≠ b)) := by
  by_cases same : k = b
  · simp [same]
  · simp [inside, same]

/-- `SET` sets one bit alone (rule R225). -/
theorem getLsbD_or_twoPow (v : Byte) (b : Nat) {k : Nat} (inside : k < 8) :
    (v ||| BitVec.twoPow 8 b).getLsbD k = (v.getLsbD k || decide (k = b)) := by
  by_cases same : k = b
  · simp [same ▸ inside, same]
  · simp [same, Ne.symm same]

/-- An instruction whose form writes back a byte `r` that is pinned bit by bit. -/
theorem encodedAs_and_exec_of_bits {i : Instr} {s : State} {form : Form} {bytes : List Byte} {r : Byte}
    {bit : Nat → Bool} {put : Byte → State} (encoding : form.encode = bytes) (meaning : perform form s = put r)
    (bits : ∀ k, k < 8 → r.getLsbD k = bit k) (notPrefix : ∀ op2, form ≠ .prefixCb op2 := by nofun)
    (isForm : i.form = form) :
    encodedAs i bytes ∧ ∃ r : Byte, (∀ k, k < 8 → r.getLsbD k = bit k) ∧ exec i s = .next (put r) := by
  obtain ⟨encoded, next⟩ := encodedAs_and_exec_of_form encoding meaning notPrefix isForm
  exact ⟨encoded, r, bits, next⟩

end Sys2Proof.Machine

open Sys2Proof Sys2Proof.Machine

/-- Settles O45. Each is the rotate of its rule, applied to A. -/
theorem accumulatorRotates : Obligations.AccumulatorRotates := fun _ s =>
  ⟨encodedAs_and_exec_of_form rfl (rotateA_rotate s .rlc), encodedAs_and_exec_of_form rfl (rotateA_rotate s .rrc),
    encodedAs_and_exec_of_form rfl (rotateA_rotate s .rl), encodedAs_and_exec_of_form rfl (rotateA_rotate s .rr)⟩

/-- Settles O46. Only the place of the operand and the cost tell a register from the byte HL points at. -/
theorem prefixedRotatesAndShifts : Obligations.PrefixedRotatesAndShifts := by
  intro i s op o isForm
  cases o <;> exact encodedAs_and_exec_of_form rfl (perform_rot_eq s _ op) (isForm := isForm)

/-- Settles O47. The masks of RES and SET differ from the operand in bit `b` alone. -/
theorem bitTestResetSet : Obligations.BitTestResetSet := by
  intro i s b o
  have encoded (x : BitVec 2) := congrArg (fun byte => [(0xCB : Byte), byte]) (xyz_field3_eq_ofNat x b o.code)
  cases o <;>
    exact ⟨encodedAs_and_exec_of_form (encoded 0b01) (perform_bitTest_eq s _ b),
      encodedAs_and_exec_of_bits (encoded 0b10) (perform_bitRes s b _) fun _ => getLsbD_and_not_twoPow _ b,
      encodedAs_and_exec_of_bits (encoded 0b11) (perform_bitSet s b _) fun _ => getLsbD_or_twoPow _ b⟩
end

section
/-! SUPPORT. Control transfer (rules R240 to R251). A call is one shared operation, `State.callTo`, and a return another,
`State.popPc`: the first in the terms of the statements, and the two one after the other. -/

namespace Sys2Proof.Machine

open Sys2Proof.Claims

section
variable (s : State)

/-- A jump by a displacement goes to the signed sum modulo 65536 (rule R244). -/
theorem State.jumpBy_eq (d : Byte) : s.jumpBy d = s.setPc (BitVec.ofInt 16 (s.pc.toNat + d.toInt)) := by
  rw [ofInt_add_toInt, State.jumpBy]

/-- A call pushes the two halves of PC and goes to its target (rules R246 and R250). -/
theorem State.took_callTo (target : Word) (k : Nat) :
    (s.callTo target).took k =
      { pushed (BitVec.ofNat 8 (s.pc.toNat / 256)) (BitVec.ofNat 8 s.pc.toNat) s with pc := target, m := k } := by
  rw [← hiByte_eq_ofNat, ← loByte_eq_ofNat_toNat, ← State.pushWord_joinBytes, joinBytes_halves]
  rfl

/-- The opcode byte of a restart, as a number (rule R250). -/
theorem encode_rst (t : Fin 8) : (Form.rst t).encode = [BitVec.ofNat 8 (0xC7 + 8 * t.val)] := by
  rw [Form.encode, xyz_field3_eq_ofNat]
  exact congrArg (fun n => [BitVec.ofNat 8 n]) (Nat.add_right_comm 192 (8 * t.val) 7)

/-- Popping PC after a call leaves the call's memory and PPU, and PC and SP as they were, where the stack stores the two
bytes (rules R166, R246 and R248). -/
theorem State.popPc_callTo (target : Word) (low : stores (s.sp - 2) = true) (high : stores (s.sp - 1) = true) :
    (s.callTo target).popPc = { s with mem := (s.callTo target).mem, ppu := (s.callTo target).ppu } := by
  have top : (s.callTo target).stackTop = s.pc := s.stackTop_pushWord s.pc low high
  have spBack : s.sp - 2 + 2 = s.sp := BitVec.sub_add_cancel s.sp 2
  rw [State.popPc, top, State.callTo_sp, spBack, State.callTo, State.pushWord_frame]
  rfl

end

section
variable {i : Instr} {s : State}

/-- CALL, a taken CALL cc and RST are the one call, to a target and at a cost of their own. -/
theorem exec_eq_callTo (isCall : (∃ nn, i.form = .call nn) ∨
      (∃ cc nn, i.form = .callCond cc nn ∧ holds cc s = true) ∨ ∃ t, i.form = .rst t) :
    ∃ target k, exec i s = .next ((s.callTo target).took k) := by
  rw [exec_eq_perform]
  obtain ⟨nn, isForm⟩ | ⟨cc, nn, isForm, taken⟩ | ⟨t, isForm⟩ := isCall
  · exact ⟨nn, 6, by rw [isForm, perform_call]⟩
  · rw [holds_eq_cond] at taken
    exact ⟨nn, 6, by rw [isForm, perform_callCond, if_pos taken]⟩
  · exact ⟨rstTarget t, 4, by rw [isForm, perform_rst]⟩

/-- RET, RETI and a taken RET cc are the one return, at a cost of their own. -/
theorem exec_eq_popPc (isReturn : i.form = .ret ∨ i.form = .reti ∨ ∃ cc, i.form = .retCond cc ∧ holds cc s = true) :
    ∃ k, exec i s = .next (s.popPc.took k) := by
  rw [exec_eq_perform]
  obtain isForm | isForm | ⟨cc, isForm, taken⟩ := isReturn
  · exact ⟨4, by rw [isForm, perform_ret, State.popPc]⟩
  · exact ⟨4, by rw [isForm, perform_reti, State.popPc]⟩
  · rw [holds_eq_cond] at taken
    exact ⟨5, by rw [isForm, perform_retCond, if_pos taken, State.popPc]⟩

/-- A call keeps F, and with it every condition. -/
theorem holds_took_callTo (cc : Cond) (target : Word) (k : Nat) : holds cc ((s.callTo target).took k) = holds cc s := by
  cases cc <;> simp [holds]

end

end Sys2Proof.Machine

open Sys2Proof Sys2Proof.Machine Sys2Proof.Claims

/-- Settles O48, form by form. A relative jump goes to the signed sum modulo 65536. -/
theorem jumps : Obligations.Jumps := by
  intro i s cc lo hi d relative
  have jump : s.jumpBy d = s.setPc relative := s.jumpBy_eq d
  rw [holds_eq_cond]
  exact ⟨encodedAs_and_exec_of_form (opNN_append 0xC3 hi lo) (perform_jp s (hi ++ lo)),
    encodedAs_and_exec_of_form (opNN_append _ hi lo) (perform_jpCond s cc (hi ++ lo)),
    encodedAs_and_exec_of_form rfl (perform_jpHl s),
    encodedAs_and_exec_of_form rfl (congrArg (State.took · 3) jump),
    encodedAs_and_exec_of_form rfl (congrArg (fun t => if s.cond cc then State.took t 3 else s.took 2) jump)⟩

/-- Settles O49, form by form. The word pushed is PC by its halves, and the word popped the two bytes on top. -/
theorem callsAndReturns : Obligations.CallsAndReturns := by
  intro i s cc lo hi k called returned
  have call (target : Word) (cost : Nat) : (s.callTo target).took cost = { called with pc := target, m := cost } :=
    s.took_callTo target cost
  rw [holds_eq_cond]
  exact ⟨encodedAs_and_exec_of_form (opNN_append 0xCD hi lo) (call (hi ++ lo) 6),
    encodedAs_and_exec_of_form (opNN_append _ hi lo)
      (congrArg (fun t => if s.cond cc then t else s.took 3) (call (hi ++ lo) 6)),
    encodedAs_and_exec_of_form rfl (perform_ret s),
    encodedAs_and_exec_of_form rfl (perform_retCond s cc),
    encodedAs_and_exec_of_form (encode_rst k) (call (rstTarget k) 4),
    encodedAs_and_exec_of_form rfl (perform_reti s)⟩

/-- Settles O50. A call keeps the flags a conditional return tests, and the return takes back the PC it pushed. -/
theorem returnUndoesCall : Obligations.ReturnUndoesCall := by
  intro i j s isCall isReturn low high
  obtain ⟨target, k, called⟩ := exec_eq_callTo isCall
  have isReturnAfter : j.form = .ret ∨ j.form = .reti ∨
      ∃ cc, j.form = .retCond cc ∧ holds cc ((s.callTo target).took k) = true := by
    simpa only [holds_took_callTo] using isReturn
  obtain ⟨cost, returned⟩ := exec_eq_popPc isReturnAfter
  exact ⟨_, _, called, returned, congrArg (State.took · cost) (s.popPc_callTo target low high)⟩
end

section
open Sys2Proof Sys2Proof.Machine

/-- Settles O51, form by form. HALT, STOP, DI and EI write one latch or IME and the cost; the others only the cost. -/
theorem miscellaneousInstructions : Obligations.MiscellaneousInstructions := fun _ s u =>
  ⟨encodedAs_and_exec_of_form rfl (perform_nop s),
    encodedAs_and_exec_of_form rfl (perform_halt s),
    encodedAs_and_exec_of_form rfl (perform_stop s),
    encodedAs_and_exec_of_form rfl (perform_di s),
    encodedAs_and_exec_of_form rfl (perform_ei s),
    encodedAs_and_exec_of_form rfl (perform_unmapped s u)⟩
end

section
/-! SUPPORT. The invariant under a step (rules R42, R72 and R316): every bus write keeps it, so every form keeps it, and so
does the PPU's part of the step. Also what the CPU and the PPU leave of each other's state (rule R340). -/

namespace Sys2Proof.Machine

open Sys2Proof.Claims

/-! ### The CPU's part of a step -/

/-- The invariant looks at memory and PPU only. -/
theorem State.Inv.congr {s t : State} (inv : s.Inv) (mem : t.mem = s.mem) (ppu : t.ppu = s.ppu) : t.Inv := by
  obtain ⟨canonical, onlyStorage, tiles, schedule⟩ := inv
  rw [← mem] at canonical onlyStorage tiles
  rw [← ppu] at tiles schedule
  exact ⟨canonical, onlyStorage, tiles, schedule⟩

/-- A bus write keeps the invariant; it leaves the scanline state machine alone. -/
theorem State.Inv.busWrite {s : State} (inv : s.Inv) (addr : Word) (v : Byte) : (s.busWrite addr v).Inv where
  canonical := State.wf_busWrite addr v inv.canonical
  onlyStorage := State.onlyStorage_busWrite addr v inv.onlyStorage
  tiles := State.tilesMatch_busWrite addr v inv.tiles
  schedule := by
    obtain ⟨range, vblank, below⟩ := inv.schedule
    exact ⟨by simpa using range, by simpa using vblank, by simpa using below⟩

/-- Bus writes one after another keep the invariant. -/
theorem StoresAt.inv {s t : State} {addresses : List Word} (stored : StoresAt t addresses s) (inv : s.Inv) : t.Inv := by
  induction addresses generalizing s with
  | nil =>
    obtain ⟨mem, ppu⟩ := stored
    exact inv.congr mem ppu
  | cons a rest ih =>
    obtain ⟨v, stored⟩ := stored
    exact ih stored (inv.busWrite a v)

/-- Every form keeps the invariant. -/
theorem State.Inv.perform {s : State} (inv : s.Inv) (form : Form) : (perform form s).Inv :=
  (storesAt_perform s form).inv inv

/-- Every form leaves the scanline state machine, the frame buffer and the output alone (rules R304 and R340). -/
theorem perform_keeps_scanlineMachine (s : State) (form : Form) :
    (perform form s).ppu.mode = s.ppu.mode ∧ (perform form s).ppu.cnt = s.ppu.cnt ∧
    (perform form s).ppu.ly = s.ppu.ly ∧ (perform form s).ppu.fb = s.ppu.fb ∧
    (perform form s).ppu.out = s.ppu.out ∧ (perform form s).ppu.frames = s.ppu.frames := by
  have kept := (storesAt_perform s form).keeps (fun _ p => (p.mode, p.cnt, p.ly, p.fb, p.out, p.frames))
    fun a _ u v => by simp
  simpa using kept

/-! ### The PPU's part of a step -/

/-- The PPU's part keeps the invariant: memory and tile cache are as they were, and the schedule goes on. -/
theorem State.Inv.ppuAdvance {s : State} (inv : s.Inv) : s.ppuAdvance.Inv where
  canonical := inv.canonical
  onlyStorage := inv.onlyStorage
  tiles := by simpa using inv.tiles
  schedule := inv.schedule.advance s.mem s.m

/-- A machine step is the CPU step and then the PPU (rule R340). -/
theorem step_of_cpuStep {s u : State} (cpu : cpuStep s = .next u) : step s = .next u.ppuAdvance := by
  simp only [step, cpu]

/-! ### Reset -/

/-- The tile cache of a video RAM of zeros is the decoded tile data (rule R46). -/
theorem tilesMatch_reset : tilesMatch State.reset.mem State.reset.ppu.tile := by
  intro t y x
  simp [State.reset, Ppu.reset, blankTiles, vramByte, Memory.read]

end Sys2Proof.Machine

open Sys2Proof Sys2Proof.Machine

/-- Settles O17. The fetch leaves memory and PPU alone, the form and the PPU's part keep the invariant. -/
theorem everyStepKeepsInvariant : Obligations.EveryStepKeepsInvariant := by
  intro s t inv next
  obtain rfl := step_next next
  have ready : s.readyToRun.Inv := inv.congr (by rw [readyToRun_eq]) (by rw [readyToRun_eq])
  have ran := ready.perform s.shadowCheck.fetched.form
  exact (ran.congr (State.tick_mem _) (State.tick_ppu _)).ppuAdvance

/-- Settles O16. Empty memory, a blank tile cache, and the start of line 0 in OAM-search. -/
theorem resetHasInvariant : Obligations.ResetHasInvariant where
  canonical := wf_reset
  onlyStorage := rfl
  tiles := tilesMatch_reset
  schedule := ⟨by decide, by decide, by decide⟩

/-- Settles O9, by the frame of every form and the frame of `advance`. -/
theorem cpuAndPpuDoNotOverlap : Obligations.CpuAndPpuDoNotOverlap := by
  refine ⟨fun i s t next => ?_, fun s t u cpu next => ?_⟩
  · rw [exec_next next]
    exact perform_keeps_scanlineMachine s i.form
  · rw [step_of_cpuStep cpu] at next
    obtain rfl := Host.Outcome.next.inj next
    exact congrArg (fun p => { u with ppu := p }) (u.ppu.advance_eq u.mem u.m)
end

section
/-! SUPPORT. The PPU's registers on the bus (rules R301 to R308), the palette in numbers, and one equation for `advance` in
each mode (rules R310 to R315). -/

namespace Sys2Proof.Machine

/-! ### Registers -/

/-- A write to 0xFF40 to 0xFF47 is a register write (rule R308). -/
theorem State.busWrite_of_register (s : State) {addr : Word} (v : Byte) (above : 0xFF40 ≤ addr.toNat)
    (below : addr.toNat ≤ 0xFF47) : s.busWrite addr v = { s with ppu := s.ppu.writeRegister addr.toNat v } := by
  rcases s.busWrite_cases addr v with ⟨e, drops⟩ | ⟨-, -, array, -⟩ | ⟨off, lt, place, -⟩ | ⟨-, -, e⟩
  · have dropped := mt (stores_iff addr).mpr (by simp [drops])
    rw [e, s.ppu.writeRegister_of_not_writable v (by omega)]
  · rw [isStorageKey_iff, backing_toNat] at array
    split at array <;> omega
  · omega
  · exact e

/-- The entries that a write to BGP sets, in numbers (rule R306). -/
theorem toNat_unpackPalette (v : Byte) (k : Fin 4) : ((unpackPalette v)[k]).toNat = v.toNat / 4 ^ k.val % 4 := by
  have slice (start : Nat) := toNat_extractLsb'_eq_mod v start 2
  match k with
  | 0 => exact slice 0
  | 1 => exact slice 2
  | 2 => exact slice 4
  | 3 => exact slice 6

/-- The byte that BGP reads as, in numbers (rule R306). -/
theorem toNat_packPalette (pal : Vector Shade 4) :
    (packPalette pal).toNat = 64 * pal[3].toNat + 16 * pal[2].toNat + 4 * pal[1].toNat + pal[0].toNat := by
  simp only [packPalette, toNat_append_eq_add, Nat.reducePow]
  omega

/-! ### Leaving a mode -/

/-- The byte one up, as a number. -/
theorem byte_add_one_eq_ofNat (v : Byte) : v + 1 = BitVec.ofNat 8 (v.toNat + 1) := by
  apply BitVec.eq_of_toNat_eq; simp

section
variable {p : Ppu} (mem : Memory)

theorem Ppu.leaveMode_of_oamSearch (mode : p.mode = .oamSearch) : p.leaveMode mem = { p with mode := .pixelTransfer } := by
  simpa [mode] using p.leaveMode_cases mem

/-- Rendering looks at neither MODE nor CNT, and keeps both (rule R325). -/
theorem Ppu.renderScanline_withClock (p : Ppu) (mode : PpuMode) (cnt : Nat) :
    { p with mode := mode, cnt := cnt }.renderScanline mem = { p.renderScanline mem with mode := mode, cnt := cnt } := by
  unfold Ppu.renderScanline
  split <;> rfl

theorem Ppu.leaveMode_of_pixelTransfer (cnt : Nat) (mode : p.mode = .pixelTransfer) :
    { p with cnt := cnt }.leaveMode mem = { p.renderScanline mem with mode := .hBlank, cnt := cnt } := by
  simpa [mode, Ppu.renderScanline_withClock] using Ppu.leaveMode_cases { p with cnt := cnt } mem

theorem Ppu.leaveMode_of_hBlank (mode : p.mode = .hBlank) :
    p.leaveMode mem =
      if p.ly.toNat = 143 then { p with ly := 144, mode := .vBlank, out := p.fb, frames := p.frames + 1 }
      else { p with ly := BitVec.ofNat 8 (p.ly.toNat + 1), mode := .oamSearch } := by
  rw [← byte_add_one_eq_ofNat]
  split <;> next last => simpa [mode, last] using p.leaveMode_cases mem

theorem Ppu.leaveMode_of_vBlank (mode : p.mode = .vBlank) :
    p.leaveMode mem =
      if 153 ≤ p.ly.toNat then { p with ly := 0, mode := .oamSearch }
      else { p with ly := BitVec.ofNat 8 (p.ly.toNat + 1) } := by
  rw [← byte_add_one_eq_ofNat]
  rcases Nat.lt_or_ge p.ly.toNat 153 with before | last
  · rw [if_neg (by omega)]
    simpa [mode, before, before.not_ge] using p.leaveMode_cases mem
  · rw [if_pos last]
    simpa [mode, last, last.not_gt] using p.leaveMode_cases mem

/-! ### `advance` -/

theorem Ppu.advance_of_off (m : Nat) (off : p.lcdEnabled = false) : p.advance mem m = p := by
  simp [Ppu.advance, off]

/-- With the LCD on the counter grows, or the mode whose threshold it reaches is left (rule R311). -/
theorem Ppu.advance_of_on (m : Nat) (on : p.lcdEnabled = true) {limit : Nat} {left : Ppu}
    (threshold : p.mode.threshold = limit) (leaves : { p with cnt := 0 }.leaveMode mem = left) :
    p.advance mem m = if limit ≤ p.cnt + 4 * m then left else { p with cnt := p.cnt + 4 * m } := by
  rw [Ppu.advance, if_pos on, threshold, leaves]

end

end Sys2Proof.Machine

open Sys2Proof Sys2Proof.Machine

/-- Settles O53. Each address reads and writes its register; the addresses that store nothing drop the byte. -/
theorem ppuRegisters : Obligations.PpuRegisters := by
  intro s v
  refine ⟨s.busWrite_of_register v (by decide) (by decide), State.busRead_of_register (by decide) (by decide),
    s.busWrite_of_register v (by decide) (by decide), State.busRead_of_register (by decide) (by decide),
    s.busWrite_of_register v (by decide) (by decide), State.busRead_of_register (by decide) (by decide),
    s.busWrite_of_not_stores v (by decide), State.busRead_of_register (by decide) (by decide),
    ⟨unpackPalette v, s.busWrite_of_register v (by decide) (by decide), toNat_unpackPalette v⟩,
    s.busRead_busWrite_same v (by decide) rfl, ?_, ?_⟩
  · rw [State.busRead_of_register (by decide) (by decide)]
    exact toNat_packPalette s.ppu.pal
  · rintro a (rfl | rfl | rfl) <;>
      exact ⟨s.busWrite_of_not_stores v (by decide), State.busRead_of_register (by decide) (by decide)⟩

/-- Settles O54, mode by mode. -/
theorem advanceMakesOneTransition : Obligations.AdvanceMakesOneTransition := by
  intro p mem m
  refine ⟨fun off => Ppu.advance_of_off mem m off, fun on => ⟨fun mode => ?_, fun mode => ?_, fun mode => ?_, fun mode => ?_⟩⟩
  · exact Ppu.advance_of_on mem m on (by rw [mode]; rfl) (Ppu.leaveMode_of_oamSearch mem mode)
  · exact Ppu.advance_of_on mem m on (by rw [mode]; rfl) (Ppu.leaveMode_of_pixelTransfer mem 0 mode)
  · exact Ppu.advance_of_on mem m on (by rw [mode]; rfl) (Ppu.leaveMode_of_hBlank mem mode)
  · exact Ppu.advance_of_on mem m on (by rw [mode]; rfl) (Ppu.leaveMode_of_vBlank mem mode)
end

section
/-! SUPPORT. A rendered line from video RAM (rules R325, R326 and R42), and what the sink receives of it (rules R327 and
R332). -/

namespace Sys2Proof.Machine

open Sys2Proof.Claims

/-! ### The line -/

/-- The tile that a map byte selects, as a number (rule R326). -/
theorem tileOf_eq (unsignedTiles : Bool) (idx : Byte) :
    tileOf unsignedTiles idx = if unsignedTiles = true ∨ 128 ≤ idx.toNat then idx.toNat else idx.toNat + 256 := by
  unfold tileOf
  cases unsignedTiles
  · by_cases low : idx.toNat < 128 <;> simp [low, Nat.not_le.mpr, Nat.not_lt.mp]
  · simp

/-- A pixel is the palette entry of the shade that video RAM holds for it (rules R325 and R42). -/
theorem Ppu.pixel_eq_pal (p : Ppu) {mem : Memory} (ok : tilesMatch mem p.tile) (i : Nat) :
    ∃ shade : Fin 4, shade.val = shadeAt p mem i ∧ p.pixel mem i = p.pal[shade] := by
  refine ⟨⟨_, BitVec.isLt _⟩, ?_, rfl⟩
  refine (ok ⟨_, tileOf_lt _ _⟩ ⟨_, Nat.mod_lt _ (by decide)⟩ ⟨_, Nat.mod_lt _ (by decide)⟩).trans ?_
  simp only [shadeAt, vramByte, tileOf_eq, Ppu.mapBase, Ppu.unsignedTiles, ← Nat.add_assoc]

/-- A pixel of a line. -/
theorem Ppu.scanline_get (p : Ppu) (mem : Memory) (x : Fin 160) : (p.scanline mem)[x] = p.pixel mem x :=
  Vector.getElem_ofFn x.isLt

/-! ### The output port -/

/-- The colour table (rule R327, decision D20 of the spec). -/
theorem rgbTable_eq_getD (k : Shade) :
    rgbTable k =
      ([⟨255, 255, 255⟩, ⟨192, 192, 192⟩, ⟨96, 96, 96⟩, ⟨0, 0, 0⟩] : List Rgb).getD k.toNat ⟨255, 0, 255⟩ := by
  revert k; decide

/-- The events of a step are those of its PPU part. -/
theorem stepEvents_of_cpuStep {s u : State} (cpu : cpuStep s = .next u) :
    stepEvents s = u.ppu.advanceEvents u.mem u.m := by
  simp only [stepEvents, cpu]

/-- The events of one `advance`: a line where it leaves pixel-transfer, a present where it enters V-blank, nothing else
(rule R332). -/
theorem Ppu.advanceEvents_eq (p : Ppu) (mem : Memory) (m : Nat) :
    p.advanceEvents mem m =
      if p.lcdEnabled = true ∧ p.mode = .pixelTransfer ∧ 172 ≤ p.cnt + 4 * m ∧ p.ly.toNat < 144 then
        lineEvents p.ly.toNat (p.scanline mem)
      else if p.lcdEnabled = true ∧ p.mode = .hBlank ∧ 204 ≤ p.cnt + 4 * m ∧ p.ly.toNat = 143 then [.present]
      else [] := by
  have last : p.ly + 1#8 = 144#8 ↔ p.ly.toNat = 143 := by
    have bound := p.ly.isLt
    rw [BitVec.toNat_eq, BitVec.toNat_add]; simp; omega
  unfold Ppu.advanceEvents
  cases on : p.lcdEnabled with
  | false => simp
  | true =>
    cases mode : p.mode with
    | oamSearch => simp
    | pixelTransfer => simp [PpuMode.threshold, ← ite_and]
    | hBlank => simp [PpuMode.threshold, last, ← ite_and]
    | vBlank => simp

/-- The row that leaving pixel-transfer leaves in the frame buffer (rule R325). -/
theorem Ppu.advance_fb_of_line (p : Ppu) (mem : Memory) (m : Nat) (on : p.lcdEnabled = true)
    (mode : p.mode = .pixelTransfer) (reached : 172 ≤ p.cnt + 4 * m) (visible : p.ly.toNat < 144) :
    (p.advance mem m).fb[p.ly.toNat] = p.scanline mem := by
  have advanced := Ppu.advance_of_on (limit := 172) mem m on (by rw [mode]; rfl) (Ppu.leaveMode_of_pixelTransfer mem 0 mode)
  simp only [advanced, if_pos reached, Ppu.renderScanline_fb, if_true]

end Sys2Proof.Machine

open Sys2Proof Sys2Proof.Machine

/-- Settles O58. Rendering writes one row, whose pixels the tile cache shares with video RAM. -/
theorem renderedLineComesFromVideoRam : Obligations.RenderedLineComesFromVideoRam := by
  intro p mem ok visible
  refine ⟨p.renderScanline_eq mem, fun y x => ⟨fun here => ?_, fun elsewhere => ?_⟩⟩
  · obtain ⟨shade, value, drawn⟩ := p.pixel_eq_pal ok x
    refine ⟨shade, value, ?_⟩
    simp only [← drawn, ← Ppu.scanline_get, Fin.getElem_fin, p.renderScanline_fb mem y y.isLt, if_pos here]
  · simp only [Fin.getElem_fin, p.renderScanline_fb mem y y.isLt, if_neg elsewhere]

/-- Settles O59. The three cases are those of the events of one `advance`. -/
theorem sinkReceivesRenderedPixels : Obligations.SinkReceivesRenderedPixels := by
  intro s u cpu p c rgb
  rw [stepEvents_of_cpuStep cpu, Ppu.advanceEvents_eq]
  refine ⟨fun on mode reached visible => ?_, fun on mode reached last => ?_, fun noLine noPresent => ?_⟩
  · rw [if_pos ⟨on, mode, reached, visible⟩, Ppu.advance_fb_of_line p u.mem u.m on mode reached visible, List.ofFn_eq_map]
    simp only [lineEvents, rgbTable_eq_getD]
    rfl
  · rw [if_neg (by simp [p, mode]), if_pos ⟨on, mode, reached, last⟩]
  · exact (if_neg noLine).trans (if_neg noPresent)
end

section
/-! SUPPORT. Runs of `advance(1)` (rules R310 to R317 and R333). A mode entered with the counter at 0 is left after a quarter
of its threshold; a clock that counts T-cycles in lines and frames goes up by 4 with each call; and what each row shows is
kept along the run. -/

namespace Sys2Proof.Machine

open Sys2Proof.Claims

/-! ### Calls one after another -/

theorem ticked_add (mem : Memory) (j k : Nat) (p : Ppu) : ticked mem (j + k) p = ticked mem k (ticked mem j p) := by
  induction j generalizing p with
  | zero => rw [Nat.zero_add]; rfl
  | succ j ih => rw [Nat.succ_add]; exact ih (p.advance mem 1)

/-- What every call keeps, a run keeps. -/
theorem ticked_keeps {mem : Memory} {P : Ppu → Prop} (kept : ∀ p, P p → P (p.advance mem 1)) (k : Nat) {p : Ppu}
    (start : P p) : P (ticked mem k p) := by
  induction k generalizing p with
  | zero => exact start
  | succ k ih => exact ih (kept p start)

/-! ### One mode -/

section
variable {p : Ppu} (mem : Memory)

/-- Below the threshold each call adds 4 to the counter (rule R311). -/
theorem ticked_below (on : p.lcdEnabled = true) (k : Nat) (below : p.cnt + 4 * k < p.mode.threshold) :
    ticked mem k p = { p with cnt := p.cnt + 4 * k } := by
  induction k with
  | zero => rfl
  | succ k ih =>
    rw [ticked_add, ih (by omega)]
    exact (Ppu.advance_of_on (p := { p with cnt := p.cnt + 4 * k }) mem 1 on rfl rfl).trans
      (if_neg (by dsimp only; omega))

/-- A mode entered with the counter at 0 is left at the call that brings it to the threshold (rule R311). -/
theorem ticked_mode (on : p.lcdEnabled = true) (start : p.cnt = 0) (n : Nat) (full : p.mode.threshold = 4 * (n + 1))
    {left : Ppu} (leaves : { p with cnt := 0 }.leaveMode mem = left) : ticked mem (n + 1) p = left := by
  have last := Ppu.advance_of_on (p := { p with cnt := p.cnt + 4 * n }) mem 1 on full leaves
  rw [ticked_add, ticked_below mem on n (by omega), ticked, ticked, last, if_pos (by dsimp only; omega)]

end

/-! ### The clock -/

/-- T-cycles from the start of a frame to the start of a mode on line 0. The frame counts as presented up to V-blank: the
present at line 144 counts it from there on. -/
def PpuMode.phase : PpuMode → Nat
  | .oamSearch => 70224
  | .pixelTransfer => 70224 + 80
  | .hBlank => 70224 + 80 + 172
  | .vBlank => 0

/-- T-cycles, up to a constant: 70224 for each frame presented and 456 for each line (rule R317). -/
def Ppu.clock (p : Ppu) : Nat := 70224 * p.frames + 456 * p.ly.toNat + p.mode.phase + p.cnt

/-- The LCD is on, and the scanline machine has been advanced by whole machine cycles. -/
structure Ppu.Running (p : Ppu) : Prop where
  /-- LCDC bit 7 (rule R301). -/
  on : p.lcdEnabled = true
  /-- The counter has gone by four T-cycles at a time. -/
  wholeCycles : p.cnt % 4 = 0
  /-- Rule R316. -/
  schedule : p.OnSchedule

@[simp] theorem Ppu.renderScanline_ly (p : Ppu) (mem : Memory) : (p.renderScanline mem).ly = p.ly := by
  rw [Ppu.renderScanline_eq]
@[simp] theorem Ppu.renderScanline_cnt (p : Ppu) (mem : Memory) : (p.renderScanline mem).cnt = p.cnt := by
  rw [Ppu.renderScanline_eq]
@[simp] theorem Ppu.renderScanline_frames (p : Ppu) (mem : Memory) : (p.renderScanline mem).frames = p.frames := by
  rw [Ppu.renderScanline_eq]

@[simp] theorem Ppu.leaveMode_cnt (p : Ppu) (mem : Memory) : (p.leaveMode mem).cnt = p.cnt := by
  rcases p.leaveMode_cases mem with ⟨-, e⟩ | ⟨-, e⟩ | ⟨-, -, e⟩ | ⟨-, -, e⟩ | ⟨-, -, e⟩ | ⟨-, -, e⟩ <;> simp [e]

/-- Leaving a mode puts the clock on by the length of the mode, on every line (rules R310 to R315). -/
theorem Ppu.clock_leaveMode (p : Ppu) (mem : Memory) (range : p.ly.toNat ≤ 153) :
    (p.leaveMode mem).clock = p.clock + p.mode.threshold := by
  rcases p.leaveMode_cases mem with
    ⟨mode, e⟩ | ⟨mode, e⟩ | ⟨mode, last, e⟩ | ⟨mode, -, e⟩ | ⟨mode, last, e⟩ | ⟨mode, -, e⟩ <;> rw [e]
  all_goals
    simp [Ppu.clock, mode, PpuMode.phase, PpuMode.threshold]
    omega

section
variable {p : Ppu} (mem : Memory)

/-- One machine cycle goes on with the schedule (rule R316). -/
theorem Ppu.Running.advance (run : p.Running) : (p.advance mem 1).Running where
  on := by simpa [Ppu.lcdEnabled] using run.on
  wholeCycles := by
    have whole := run.wholeCycles
    rcases p.advance_cases mem 1 with ⟨-, e⟩ | ⟨-, -, e⟩ | ⟨-, -, e⟩ <;> rw [e]
    · exact whole
    · dsimp only; omega
    · simp
  schedule := run.schedule.advance mem 1

theorem PpuMode.threshold_mod_four (mode : PpuMode) : mode.threshold % 4 = 0 := by cases mode <;> rfl

/-- One machine cycle puts the clock on by four T-cycles: no excess is lost where the counter goes by fours. -/
theorem Ppu.Running.clock_advance (run : p.Running) : (p.advance mem 1).clock = p.clock + 4 := by
  obtain ⟨on, whole, range, -, below⟩ := run
  rcases p.advance_cases mem 1 with ⟨off, -⟩ | ⟨-, -, e⟩ | ⟨-, reached, e⟩
  · simp [on] at off
  · rw [e]; rfl
  · have onThreshold : p.mode.threshold = p.cnt + 4 := by
      have := p.mode.threshold_mod_four
      omega
    have left := Ppu.clock_leaveMode { p with cnt := 0 } mem range
    rw [e, left]
    simp only [onThreshold, Ppu.clock]
    omega

/-- A run of machine cycles goes on with the schedule (rule R316). -/
theorem Ppu.Running.ticked (run : p.Running) (k : Nat) : (ticked mem k p).Running :=
  ticked_keeps (fun _ run => run.advance mem) k run

/-- The clock after `k` machine cycles. -/
theorem Ppu.Running.clock_ticked (run : p.Running) (k : Nat) : (Claims.ticked mem k p).clock = p.clock + 4 * k := by
  induction k generalizing p with
  | zero => rfl
  | succ k ih => rw [Claims.ticked, ih (run.advance mem), run.clock_advance mem]; omega

/-- The start of a frame is on the schedule. -/
theorem Ppu.running_of_frameStart (on : p.lcdEnabled = true) (mode : p.mode = .oamSearch) (start : p.cnt = 0)
    (first : p.ly = 0) : p.Running :=
  ⟨on, by rw [start], by simp [first], by simp [mode, first], by simp [mode, start, PpuMode.threshold]⟩

/-- The line and the frames presented, read off the clock: 456 T-cycles to a line and 154 lines to a frame, with the
present at line 144 (rules R314, R315 and R317). -/
theorem Ppu.Running.ly_and_frames (run : p.Running) {frames k : Nat} (clock : p.clock = 70224 * (frames + 1) + 4 * k) :
    p.ly.toNat = k / 114 % 154 ∧ p.frames = frames + (k + 1140) / 17556 := by
  obtain ⟨-, whole, range, vBlank, below⟩ := run
  unfold Ppu.clock at clock
  cases mode : p.mode
  all_goals
    simp [mode, PpuMode.phase, PpuMode.threshold] at clock vBlank below
    omega

/-- The line and the frames presented after `k` machine cycles from the start of a frame. -/
theorem Ppu.ly_and_frames_ticked (on : p.lcdEnabled = true) (mode : p.mode = .oamSearch) (start : p.cnt = 0)
    (first : p.ly = 0) (k : Nat) :
    (Claims.ticked mem k p).ly.toNat = k / 114 % 154 ∧
      (Claims.ticked mem k p).frames = p.frames + (k + 1140) / 17556 := by
  have run : p.Running := Ppu.running_of_frameStart on mode start first
  refine (run.ticked mem k).ly_and_frames ?_
  rw [run.clock_ticked mem k, Ppu.clock, mode, start, first]
  simp [PpuMode.phase]
  omega

end

/-! ### What the rows show -/

/-- The line that rule R325 computes for LY = `y`. -/
def Ppu.lineAt (p : Ppu) (mem : Memory) (y : Nat) : PixelLine := { p with ly := BitVec.ofNat 8 y }.scanline mem

/-- The rows of the frame buffer that were drawn since the frame began. In V-blank the output has them. -/
def Ppu.rowsDrawn (p : Ppu) : Nat :=
  match p.mode with
  | .oamSearch | .pixelTransfer => p.ly.toNat
  | .hBlank => p.ly.toNat + 1
  | .vBlank => 0

/-- The rows drawn, and in V-blank all rows of the output, are the lines computed for them. -/
structure Ppu.ShowsLines (p : Ppu) (mem : Memory) : Prop where
  /-- The rows of the frame buffer. -/
  drawn : ∀ (y : Nat) (inside : y < 144), y < p.rowsDrawn → p.fb[y] = p.lineAt mem y
  /-- The rows of the output, presented at the start of V-blank (rule R331). -/
  presented : p.mode = .vBlank → ∀ (y : Nat) (inside : y < 144), p.out[y] = p.lineAt mem y

/-- A line is computed from the registers and the tile cache, which `advance` keeps. -/
theorem Ppu.lineAt_advance (p : Ppu) (mem : Memory) (m y : Nat) : (p.advance mem m).lineAt mem y = p.lineAt mem y := by
  rw [Ppu.advance_eq]; rfl

theorem Ppu.lineAt_ticked (p : Ppu) (mem : Memory) (k y : Nat) : (ticked mem k p).lineAt mem y = p.lineAt mem y :=
  ticked_keeps (P := fun q => q.lineAt mem y = p.lineAt mem y) (fun q same => (q.lineAt_advance mem 1 y).trans same) k rfl

/-- The line drawn is the one computed for LY. -/
theorem Ppu.scanline_eq_lineAt (p : Ppu) (mem : Memory) : p.scanline mem = p.lineAt mem p.ly.toNat := by
  simp [Ppu.lineAt]

theorem Ppu.ShowsLines.leaveMode {p : Ppu} {mem : Memory} (ok : p.ShowsLines mem) : (p.leaveMode mem).ShowsLines mem := by
  obtain ⟨drawn, presented⟩ := ok
  rcases p.leaveMode_cases mem with
    ⟨mode, e⟩ | ⟨mode, e⟩ | ⟨mode, last, e⟩ | ⟨mode, -, e⟩ | ⟨mode, -, e⟩ | ⟨mode, -, e⟩ <;>
    rw [e] <;> simp only [Ppu.rowsDrawn, mode] at drawn
  · exact ⟨drawn, nofun⟩
  · refine ⟨fun y inside below => (p.renderScanline_fb mem y inside).trans ?_, nofun⟩
    rw [Ppu.renderScanline_eq] at below ⊢
    have upToHere : y < p.ly.toNat + 1 := below
    split
    · next here => rw [p.scanline_eq_lineAt, ← here]; rfl
    · next elsewhere => exact drawn y inside (by omega)
  · exact ⟨nofun, fun _ y inside => drawn y inside (by omega)⟩
  · refine ⟨fun y inside below => drawn y inside ?_, nofun⟩
    have next : (p.ly + 1).toNat ≤ p.ly.toNat + 1 := by rw [BitVec.toNat_add]; exact Nat.mod_le _ _
    exact Nat.lt_of_lt_of_le below next
  · exact ⟨nofun, nofun⟩
  · exact ⟨by simp [Ppu.rowsDrawn, mode], presented⟩

theorem Ppu.ShowsLines.advance {p : Ppu} {mem : Memory} (ok : p.ShowsLines mem) : (p.advance mem 1).ShowsLines mem := by
  rcases p.advance_cases mem 1 with ⟨-, e⟩ | ⟨-, -, e⟩ | ⟨-, -, e⟩ <;> rw [e]
  · exact ok
  · exact ⟨ok.drawn, ok.presented⟩
  · exact Ppu.ShowsLines.leaveMode (p := { p with cnt := 0 }) ⟨ok.drawn, ok.presented⟩

theorem Ppu.ShowsLines.ticked {p : Ppu} {mem : Memory} (ok : p.ShowsLines mem) (k : Nat) :
    (Claims.ticked mem k p).ShowsLines mem :=
  ticked_keeps (P := fun q => q.ShowsLines mem) (fun _ => Ppu.ShowsLines.advance) k ok

/-- In every V-blank of a run from the start of a frame the output shows the computed lines (rule R333). -/
theorem Ppu.out_of_vBlank {p : Ppu} (mem : Memory) (on : p.lcdEnabled = true) (mode : p.mode = .oamSearch)
    (start : p.cnt = 0) (first : p.ly = 0) {k : Nat} (vBlankLine : 144 ≤ k / 114 % 154) (y : Nat) (inside : y < 144) :
    (ticked mem k p).out[y] = p.lineAt mem y := by
  have ok : p.ShowsLines mem := ⟨by simp [Ppu.rowsDrawn, mode, first], by simp [mode]⟩
  have shows := ok.ticked k
  have run := (Ppu.running_of_frameStart on mode start first).ticked mem k
  have ly := (Ppu.ly_and_frames_ticked mem on mode start first k).1
  exact (shows.presented (run.schedule.vBlankLines.mpr (by omega)) y inside).trans (p.lineAt_ticked mem k y)

end Sys2Proof.Machine

open Sys2Proof Sys2Proof.Machine Sys2Proof.Claims

/-- Settles O56, by the clock. -/
theorem frameTakes17556Cycles : Obligations.FrameTakes17556Cycles := fun _ mem k on mode start first =>
  Ppu.ly_and_frames_ticked mem on mode start first k

/-- Settles O55, mode by mode: 20 calls, 43 and 51. -/
theorem lineTakes114Cycles : Obligations.LineTakes114Cycles := by
  intro p mem on mode start visible
  have oamSearch := ticked_mode mem on start 19 (by rw [mode]; rfl) (Ppu.leaveMode_of_oamSearch mem mode)
  have pixelTransfer := ticked_mode (p := { p with mode := .pixelTransfer, cnt := 0 }) mem on rfl 42 rfl
    (Ppu.leaveMode_of_pixelTransfer mem 0 rfl)
  have hBlank := ticked_mode (p := { p with mode := .hBlank, cnt := 0, fb := (p.renderScanline mem).fb }) mem on rfl 50 rfl
    (Ppu.leaveMode_of_hBlank mem rfl)
  rw [if_neg (by dsimp only; omega)] at hBlank
  calc ticked mem 114 p
    _ = ticked mem 51 (ticked mem 43 (ticked mem 20 p)) := by rw [ticked_add mem 20 94, ticked_add mem 43 51]
    _ = ticked mem 51 { p with mode := .hBlank, cnt := 0, fb := (p.renderScanline mem).fb } := by
      rw [oamSearch, pixelTransfer, Ppu.renderScanline_withClock, Ppu.renderScanline_eq]
    _ = _ := by rw [hBlank, mode, start]

/-- Settles O57. After 16416 cycles LY is 144, so the mode is V-blank, where the output shows every line. -/
theorem outputShowsRenderedLines : Obligations.OutputShowsRenderedLines := by
  intro p mem on mode start first
  have frames := (frameTakes17556Cycles p mem 16416 on mode start first).2
  have shows := Ppu.out_of_vBlank mem on mode start first (k := 16416) (by norm_num)
  exact ⟨by rw [frames], fun y => shows y y.isLt⟩
end

section
/-! SUPPORT. Every instruction and every step completes (rules R400 and R470): what each form leaves in `m` is the cost
that the table gives, and the table's costs are 1 to 6. -/

namespace Sys2Proof.Machine

open Sys2Proof.Claims

/-! ### Costs (rules R34 and R470) -/

@[simp] theorem modifyCost_eq (o : Operand8) : modifyCost o = if o = .atHl then 4 else 2 := by cases o <;> rfl
@[simp] theorem testCost_eq (o : Operand8) : testCost o = if o = .atHl then 3 else 2 := by cases o <;> rfl

/-- `PREFIX CB` costs what the form that it runs costs. -/
theorem mcycles_prefixCb (op2 : Byte) (s : State) : mcycles (.prefixCb op2) s = mcycles (prefixedForm op2) s := by
  have bound := op2.isLt
  have operand : operandOf (op2.toNat % 8) = .atHl ↔ op2.toNat % 8 = 6 := by
    rcases operandOf_cases (op2.toNat % 8) (by omega) with ⟨six, e⟩ | ⟨notSix, r, e⟩
    · exact ⟨fun _ => six, fun _ => e⟩
    · simp [e, notSix]
  unfold prefixedForm
  rcases group : op2.toNat / 64 with _ | _ | _ | k
  · have : ¬64 ≤ op2.toNat := by omega
    simp [mcycles, operand, this]
  · have : 64 ≤ op2.toNat ∧ op2.toNat < 128 := by omega
    simp [mcycles, operand, this]
  all_goals
    have : ¬op2.toNat < 128 := by omega
    simp [mcycles, operand, this]

/-- Every form leaves its cost in `m`. -/
theorem perform_m (s : State) (form : Form) : (perform form s).m = mcycles form s := by
  induction form using forall_form with
  | through op2 run => rwa [perform_prefixCb, mcycles_prefixCb]
  | direct form notPrefix =>
    cases form with
    | prefixCb op2 => exact absurd rfl (notPrefix op2)
    | jpCond cc | jrCond cc | callCond cc | retCond cc =>
      cases taken : s.cond cc <;> simp [mcycles, holds_eq_cond, taken]
    | _ => simp [mcycles]

/-- The costs of the table are 1 to 6. -/
theorem mcycles_range (form : Form) (s : State) : 1 ≤ mcycles form s ∧ mcycles form s ≤ 6 := by
  cases form with
  | jpCond | jrCond | callCond | retCond | rot | bitTest | bitRes | bitSet | prefixCb =>
    simp only [mcycles]
    split_ifs <;> decide
  | _ => simp [mcycles]

end Sys2Proof.Machine

open Sys2Proof Sys2Proof.Machine Sys2Proof.Claims

/-- Settles O7. The next state is what the form's operation answers, and that leaves the cost of the table in `m`. -/
theorem everyInstructionCompletesAtItsCost : Obligations.EveryInstructionCompletesAtItsCost := fun i s =>
  ⟨perform i.form s, exec_eq_perform i s, perform_m s i.form⟩

/-- Settles O6. The fetch and the form leave CLK alone, and the step then adds the form's cost. -/
theorem everyStepCompletes : Obligations.EveryStepCompletes := by
  intro s
  have clk : (perform s.shadowCheck.fetched.form s.readyToRun).clk = s.clk := by
    obtain ⟨-, -, -, -, -, clk, -⟩ := perform_control s.readyToRun s.shadowCheck.fetched.form
    rw [clk, readyToRun_eq]
  have cost := perform_m s.readyToRun s.shadowCheck.fetched.form
  refine ⟨_, step_eq s, ?_, ?_⟩
  · simp only [State.ppuAdvance_clk, State.ppuAdvance_m, State.tick_clk, State.tick_m, clk]
  · simp only [State.ppuAdvance_m, State.tick_m, cost]
    exact mcycles_range _ _

/-- Settles O18, by induction on the length: every step completes and keeps the invariant. -/
theorem everyRunIsSafe : Obligations.EveryRunIsSafe := by
  intro n
  induction n with
  | zero => exact fun _ inv => inv
  | succ n ih =>
    intro s inv
    obtain ⟨t, next, -⟩ := everyStepCompletes s
    exact ⟨inv, t, next, ih t (everyStepKeepsInvariant s t inv next)⟩
end
